-- ==== Sys2Proof/Word.lean ====
section
/-! DEFINITION. The byte, the byte string, and nothing else: every other width of this part is a counter's
own width (stated where the counter is) or a plain number. -/

namespace Sys2Proof

/-- One byte, as the Host Port, the Flash Port, frames and manifests carry it. -/
abbrev Byte := BitVec 8

/-- A byte string in the order its sender gives it (00_scope, Conventions, Byte order). -/
abbrev Bytes := List Byte

end Sys2Proof
end

