-- ==== Sys2Proof/Syntax.lean ====
section
/-! DEFINITION. The commands of the part: one constructor for each row of spec/opcode_table.json, with the
operands that come from outside the part. A request row (GET_STATUS, SET_LINES, …) has no operand: its
arguments stand in the request buffer of State, where the host's programs put them (R51, R60; assumption 4). -/

namespace Sys2Proof

/-- The six control lines (R104, R105, R107). -/
inductive Line where
  | l0 | l1 | l2 | l3 | l4 | l5
deriving DecidableEq, Repr

/-- What the flash answers to the engine's reads during one operation: address and byte pairs, ascending.
An address that is not listed reads as an erased byte (assumption 5). -/
abbrev FlashImage := List Host.Cell

/-- The steps of the part (spec/opcode_table.json; 95_what_each_step_holds). -/
inductive Instr where
  /-- HCS_N is asserted (R1). -/
  | hostTransactionBegin
  /-- A DENY instruction byte arrives (R7). -/
  | deny (byte : Byte)
  /-- An ERASE_ALL instruction byte arrives (R8). -/
  | eraseAll (byte : Byte)
  /-- A PASS instruction byte arrives (R9, R15). -/
  | pass (byte : Byte)
  /-- A WRITE_ENABLE instruction byte arrives (R9, R15). -/
  | writeEnable (byte : Byte)
  /-- A WRITE_DISABLE instruction byte arrives (R9, R15). -/
  | writeDisable (byte : Byte)
  /-- A STATUS_READ instruction byte arrives (R10, R16). -/
  | statusRead (byte : Byte)
  /-- The address of a READ completes: its 3 or 4 bytes, in arrival order (R6, R33). -/
  | read (address : Bytes)
  /-- The address of a PROGRAM completes (R38, R40). -/
  | program (address : Bytes)
  /-- The address of an ERASE_4K completes (R13, R41 to R44). -/
  | erase4k (address : Bytes)
  /-- The address of an ERASE_32K completes (R41, R43, R44). -/
  | erase32k (address : Bytes)
  /-- The address of an ERASE_64K completes (R41, R43, R44). -/
  | erase64k (address : Bytes)
  /-- The host reads one byte; `flash` is the byte the flash drives if a forwarded transaction delivers it. -/
  | readStreamByte (flash : Byte)
  /-- The host sends one data byte (R39, R52 to R57). -/
  | programDataByte (byte : Byte)
  /-- HCS_N is released (R2). -/
  | hostTransactionEnd
  /-- An engine status read completes with this status byte (R19). -/
  | readyWaitPoll (status : Byte)
  /-- An engine granule erase completes (R20). -/
  | engineGranuleErase
  /-- The supply rises (R68). -/
  | supplyRise
  /-- RESET_N is asserted (R68). -/
  | resetNAssert
  /-- RESET_N is released (R68). -/
  | resetNRelease
  /-- A start-up manifest check ends; `copy` answers the reads into the checked copy, `content` the reads of the
  measured records (R81, R87). -/
  | manifestCheckComplete (copy content : FlashImage)
  /-- The start-up entries are written and the steps of R89 follow. -/
  | startUpEntries
  /-- The level on a line's pin becomes high or low (R106). -/
  | linePinChange (line : Line) (high : Bool)
  /-- A sensed line's settling timer runs out (R106). -/
  | lineSettlingExpiry (line : Line)
  /-- The deadline's remaining time reaches zero (R103). -/
  | deadlineExpiry
  | getStatus
  | setLines
  | tightenRegion
  | reboot
  | openStage
  | extend
  /-- The hash of a taken EXTEND is computed (R114). -/
  | extendHashComplete
  | closeStage
  | readMeasurements
  | getIdentity
  /-- The engine finishes deriving d and Q for GET_IDENTITY (R128). -/
  | keyDerivationComplete
  | quote
  /-- The engine finishes signing a quote (R134). -/
  | quoteSigned
  | openUpdate
  | stageUpdate
  /-- The staging manifest check ends (R146, R147). -/
  | stageCheckComplete (copy content : FlashImage)
  | abortUpdate
  | confirmBoot
  | setOwner
  /-- The SET_OWNER verifier computation ends (R166). -/
  | verifierComputed
  | unlock
  /-- An owner or recovery comparison ends (R162). -/
  | comparisonEnd
  | lock
  | freeze
  | recover
  | setRecoveryLevel
  | wipe
  | putCredential
  | getCredential
  | deleteCredential
  | listCredentials
  | macWithCredential
  /-- The HMAC computation ends (R179). -/
  | macComplete
  | readLog
  /-- The instruction byte of a READ, PROGRAM, ERASE_4K, ERASE_32K or ERASE_64K transaction arrives (R1, R3). -/
  | instructionByte (byte : Byte)
  /-- The supply falls (R141). -/
  | supplyFall
  /-- A Record Store or Fuse Block write in progress takes effect whole (R68). -/
  | writeTakesEffect
deriving DecidableEq, Repr

end Sys2Proof
end

