-- ==== Sys2Proof/Machine/Encoding.lean ====
section
/-! DEFINITION. Byte-order helpers, saturating counters and the frame check. -/

namespace Sys2Proof.Machine

/-- The low `n` bytes of `v`, least significant first (00_scope, Byte order). -/
def le : Nat → Nat → Bytes
  | 0, _ => []
  | n + 1, v => BitVec.ofNat 8 v :: le n (v / 256)

/-- The low `n` bytes of `v`, most significant first. -/
def be (n v : Nat) : Bytes :=
  (le n v).reverse

/-- A byte string read least significant byte first. -/
def ofLe : Bytes → Nat
  | [] => 0
  | b :: bs => b.toNat + 256 * ofLe bs

/-- A byte string read most significant byte first. -/
def ofBe (bs : Bytes) : Nat :=
  ofLe bs.reverse

/-- One byte. -/
def byteOf (n : Nat) : Byte :=
  BitVec.ofNat 8 n

/-- 1 for yes, 0 for no. -/
def byteOfBool (b : Bool) : Byte :=
  if b then 1 else 0

/-- `n` bytes of `bs` from offset `k`. -/
def slice (bs : Bytes) (k n : Nat) : Bytes :=
  (bs.drop k).take n

/-- The byte at offset `k`; offsets are in range wherever the model asks. -/
def byteAt (bs : Bytes) (k : Nat) : Byte :=
  bs.getD k 0

/-- One more, or the maximum again (00_scope, Saturation). -/
def satInc {w : Nat} (c : BitVec w) : BitVec w :=
  if c = BitVec.allOnes w then c else c + 1

/-- One shift of the frame-check register (R192). -/
def crcShift (r : BitVec 16) : BitVec 16 :=
  if r.msb then (r <<< 1) ^^^ 0x1021#16 else r <<< 1

/-- One byte of the frame check (R192). -/
def crcByte (r : BitVec 16) (b : Byte) : BitVec 16 :=
  Nat.repeat crcShift 8 (r ^^^ (b.setWidth 16 <<< 8))

/-- The frame check over a byte string (R192). -/
def frameCheck (bs : Bytes) : BitVec 16 :=
  bs.foldl crcByte 0xFFFF#16

end Sys2Proof.Machine
end

