-- ==== Sys2Proof/Config.lean ====
section
/-! DEFINITION. The sizes the manual fixes, the values the model names for fuse fields at reset (assumption 2),
and the model's free values (assumptions 9 and 10). -/

namespace Sys2Proof.Config

/-- The byte given in place of flash data where a read is not served (00_scope, Terms: fill). -/
def fill : Byte := 0xFF

/-- An aligned block of 4 KiB, the unit of region bases and limits (00_scope, Terms: granule). -/
def granule : Nat := 4096

/-- The size of the MAILBOX record (R23, R49). -/
def windowSize : Nat := 8192

/-- The size of the request area; the response area starts at this window offset (R49). -/
def requestArea : Nat := 4096

/-- The size of each manifest area, and the longest declared length (R24, R82). -/
def manifestArea : Nat := 16384

/-- The longest body of a frame (R51). -/
def maxBody : Nat := 4086

/-- The capacity of the incident ring (R183). -/
def ringCapacity : Nat := 32

/-- Fuse flash size exponent at reset. DESIGN CHOICE (assumption 2): the worked layout of section 2.9. -/
def resetSizeExponent : Nat := 24

/-- Fuse manifest address of slot A at reset. DESIGN CHOICE (assumption 2): section 2.9. -/
def resetMA : Nat := 0xD00000

/-- Fuse manifest address of slot B at reset. DESIGN CHOICE (assumption 2): section 2.9. -/
def resetMB : Nat := 0xD10000

/-- Fuse manifest address of the recovery image at reset. DESIGN CHOICE (assumption 2): section 2.9. -/
def resetMR : Nat := 0xE00000

/-- Fuse recovery span base at reset. DESIGN CHOICE (assumption 2): section 2.9. -/
def resetRecoveryBase : Nat := 0xE00000

/-- Fuse recovery span limit at reset. DESIGN CHOICE (assumption 2): section 2.9. -/
def resetRecoveryLimit : Nat := 0x1000000

/-- Free value (assumption 9): the physical address a RUNNING record or a SPARE record would translate to
where the manual gives none (a RUNNING record under running slot R, or either view before a verdict).
R23 and R69 keep every run away from it. -/
opaque unstatedTranslation : Nat → Nat

/-- Free value (assumption 10): the per-signature value where the model's bounded search for one ends.
The construction of RFC 6979 searches without a bound. -/
opaque nonceBeyondSearch : Nat → Nat

end Sys2Proof.Config
end

