-- ==== Sys2Proof/Machine/Types.lean ====
section
/-! DEFINITION. The values the part's state is made of, under the manual's names. Code values are in
Machine/Operands.lean. -/

namespace Sys2Proof.Machine

/-! ## Host Port and Flash Port (chapter 1) -/

/-- Instruction classes (R5, section 11.5). -/
inductive InstrClass where
  | read | program | erase4k | erase32k | erase64k | eraseAll | writeEnable | writeDisable
  | statusRead | pass | deny
deriving DecidableEq, Repr

/-- Where a host transaction stands (R1, R2, R21). -/
inductive Phase where
  | idle | instruction | address | dummy | data | trail | abandoned
deriving DecidableEq, Repr

/-- Whom the Flash Port serves (R17). -/
inductive PortOwner where
  | hostPass | engine
deriving DecidableEq, Repr

/-- What the part does with a transaction (section 1.1, R6, R15). -/
inductive Decision where
  | forward | window | fill | refuse | absorb | synthStatus
deriving DecidableEq, Repr

/-- One Instruction Class Table entry (section 1.2). -/
structure ClassEntry where
  cls : InstrClass
  /-- 0, 3 or 4 bytes. -/
  addrLen : Nat
  /-- 0..15 bytes. -/
  dummy : Nat
  /-- 1, 2 or 4 data lines. -/
  lanes : Nat
deriving DecidableEq, Repr

/-- A listed entry of the Instruction Class Table; a byte that is not listed is DENY (R4). -/
structure ClassRow where
  byte : Byte
  entry : ClassEntry
deriving DecidableEq, Repr

/-- A record of the Region Table by index, or a gap by its first address and the first address after it
(R25, R26). -/
inductive Segment where
  | record (index : Nat)
  | gap (first limit : Nat)
deriving DecidableEq, Repr

/-- Where a read stream's bytes come from (section 2.4). -/
inductive StreamMode where
  | flash | window
deriving DecidableEq, Repr

/-- The read-stream context of section 2.4; a_i is computed from the record's address and `index`. -/
structure ReadStream where
  /-- i, the next data byte to be driven. -/
  index : Nat
  /-- The segment the previous byte lay in; before byte 0, the segment of a0. -/
  segment : Segment
  mode : StreamMode
  /-- p of the last byte taken from the flash. -/
  previous : Option Nat
deriving DecidableEq, Repr

/-- The Host Port's transaction record (section 1.1). The last five fields are the model's (assumption 21): the dummy
bytes counted so far (R1); the program's byte count, its discard mark and whether it has logged a break, which R52 to
R57 and R39 judge by; and what the part last drove. -/
structure HostRecord where
  phase : Phase
  instr : Option Byte
  entry : Option ClassEntry
  judgement : Option PortOwner
  addrBytes : Bytes
  /-- The logical address a. -/
  addr : Option Nat
  decision : Option Decision
  fillLatched : Bool
  fillLogged : Bool
  stream : Option ReadStream
  /-- Dummy bytes that have passed (R1). -/
  dummyCount : Nat
  /-- Data bytes of this PROGRAM that have arrived. -/
  dataCount : Nat
  /-- The rest of this PROGRAM's bytes are discarded. -/
  discarding : Bool
  /-- This PROGRAM has logged its one FRAME_BAD for a break (R54). -/
  breakLogged : Bool
  /-- The byte the part last drove to the host in this transaction. -/
  driven : Option Byte
deriving DecidableEq, Repr

/-- The STATUS_READ entry the engine polls with (R19). -/
structure PollEntry where
  byte : Byte
  dummy : Nat
  lanes : Nat
deriving DecidableEq, Repr

/-- What FCS_N is asserted for (section 1.5). -/
inductive OpenTransaction where
  | none
  /-- A forwarded host transaction: its instruction byte, lane width, the physical address sent (absent for an
  unexamined one) and the host data byte last sent on. Its phase is the Host Port record's. -/
  | host (byte : Byte) (lanes : Nat) (physical : Option Nat) (sent : Option Byte)
  /-- An engine status read (R19). -/
  | engineStatus (entry : Option PollEntry)
  /-- An engine read: the fused instruction byte, the address sent and its length in bytes (R18). -/
  | engineRead (byte : Byte) (sentAddress addrLen : Nat)
  /-- An engine granule erase: the WRITE_ENABLE and ERASE_4K rows used and the physical start (R20). -/
  | engineErase (enable erase : Option ClassRow) (physical : Nat)
deriving DecidableEq, Repr

/-- The Flash Port (section 1.5). -/
structure FlashPort where
  owner : PortOwner
  openTx : OpenTransaction
  readyPoll : Option PollEntry
deriving DecidableEq, Repr

/-! ## Regions (chapter 2) -/

/-- The rule of a region record (R22). -/
inductive Rule where
  | openAll | readOnly | noAccess | owner | spare | mailbox
deriving DecidableEq, Repr

/-- An effective or default rule (R28). -/
inductive Access where
  | openAll | readOnly | noAccess
deriving DecidableEq, Repr

/-- How a record translates (R27). -/
inductive View where
  | none | running | spare
deriving DecidableEq, Repr

/-- A tightening level (R45). -/
inductive Tightening where
  | none | readOnly | noAccess
deriving DecidableEq, Repr

/-- A region record (R22). -/
structure RegionRecord where
  base : Nat
  limit : Nat
  rule : Rule
  view : View
  pa : Nat
  pb : Nat
  measured : Bool
  tight : Tightening
deriving DecidableEq, Repr

/-- The Region Table (R22). -/
structure RegionTable where
  defaultRule : Access
  records : List RegionRecord
deriving DecidableEq, Repr

/-! ## Requests and the Management Window (chapter 3) -/

/-- The 27 requests (R60, section 11.3). -/
inductive Request where
  | getStatus | setLines | tightenRegion | reboot | openStage | extend | closeStage
  | readMeasurements | getIdentity | quote | openUpdate | stageUpdate | abortUpdate | confirmBoot
  | setOwner | unlock | lock | recover | setRecoveryLevel | freeze | wipe | putCredential
  | getCredential | deleteCredential | listCredentials | macWithCredential | readLog
deriving DecidableEq, Repr

/-- Response status codes (section 3.6). -/
inductive Status where
  | ok | busy | idle | badCheck | badFrame | unknownRequest | badArgument | refusedState | denied
  | lockedOut | frozen | verifyFailed | rollback | full | notFound
deriving DecidableEq, Repr

/-- Mailbox states (R50). -/
inductive MailboxState where
  | idle | assembling | executing | done
deriving DecidableEq, Repr

/-- A decoded request header (R51). -/
structure FrameHeader where
  magic : Bytes
  code : Byte
  tag : BitVec 16
  bodyLength : Nat
deriving DecidableEq, Repr

/-- A response frame; its check is computed when its bytes are read (R61, R192). -/
structure ResponseFrame where
  code : Byte
  status : Status
  overrun : BitVec 8
  tag : BitVec 16
  body : Bytes
deriving DecidableEq, Repr

/-- The Management Window (R50). The received count is the request buffer's length. `dispatched` is the model's:
the request that has been handed to its owner and that the owner has not yet taken (R59, R60). -/
structure Window where
  state : MailboxState
  buffer : Bytes
  header : Option FrameHeader
  frameLength : Option Nat
  overrun : BitVec 8
  response : ResponseFrame
  dispatched : Option Request
deriving DecidableEq, Repr

/-! ## Boot Selector (chapter 4) -/

/-- Firmware slots A and B. -/
inductive Slot where
  | a | b
deriving DecidableEq, Repr

/-- The slot whose manifest is loaded (R69). -/
inductive RunSlot where
  | a | b | r
deriving DecidableEq, Repr

/-- The causes of a start (R68). -/
inductive Cause where
  | coldPower | coldPin | warmRequest | warmSchedule | warmDeadline
deriving DecidableEq, Repr

/-- Start phases (R69). -/
inductive StartPhase where
  | selecting | completing | running | halted
deriving DecidableEq, Repr

/-- Boot verdicts that give a running manifest; HALT is `BootOutcome.halted` (R69). -/
inductive Verdict where
  | normal | trial | fallback | recovery
deriving DecidableEq, Repr

/-- The Measurement Stack's overflow response (R109). -/
inductive Overflow where
  | fold | refuse
deriving DecidableEq, Repr

/-- The running manifest parameters (R88). -/
structure Params where
  keyIndex : Nat
  securityVersion : Nat
  imageVersion : Nat
  revokeOther : Bool
  overflow : Overflow
  digests : List Bytes
deriving DecidableEq, Repr

/-- What a passing manifest sets together: the verdict, the running and target slots and the running manifest
parameters (R69, R88). -/
structure Booted where
  verdict : Verdict
  running : RunSlot
  target : Slot
  params : Params
deriving DecidableEq, Repr

/-- The outcome of selection: absent, HALT, or booted (R69, R91). -/
inductive BootOutcome where
  | absent
  | halted
  | booted (boot : Booted)
deriving DecidableEq, Repr

/-- The Boot Selector (R69). `sample` is the L5 sample of R75: absent, or whether it was asserted. -/
structure BootSelector where
  phase : StartPhase
  cause : Cause
  rejected : List Slot
  outcome : BootOutcome
  sample : Option Bool
deriving DecidableEq, Repr

/-- The selection steps that check a manifest (section 4.4). -/
inductive SelectStep where
  | pending (slot : Slot)
  | committed
  | other
  | recovery
deriving DecidableEq, Repr

/-- Manifest kinds (section 11.5). -/
inductive ManifestKind where
  | slot | recovery
deriving DecidableEq, Repr

/-- Why a manifest check failed (R81, section 11.5). -/
inductive VerifyReason where
  | header | signature | keyRevoked | rollback | structure | digest
deriving DecidableEq, Repr

/-! ## Sequence and Watch Unit, Line Unit (chapter 5) -/

/-- Incident kinds (R182, section 11.5). -/
inductive IncidentKind where
  | instrDenied | readFilled | boundaryFill | writeRefused | portHeld | frameBad | requestOverrun
  | manifestRejected | trialExpired | stageFailed | unlockFailed | credDenied | stackRefused
  | deadlineExpired
deriving DecidableEq, Repr

/-- Sequence triggers (section 5.1). -/
inductive SeqTrigger where
  | verified
  | stageClosed (label : Bytes)
  | confirmed
  | unlocked
  | endMark
deriving DecidableEq, Repr

/-- Watch triggers (section 5.1). -/
inductive WatchTrigger where
  | threshold (kind : IncidentKind)
  | line (line : Line) (asserted : Bool)
  | lockout
deriving DecidableEq, Repr

/-- Actions (section 5.4). -/
inductive Action where
  | lineSet (line : Line) (asserted : Bool)
  | freezeStore
  | lockStore
  | tighten (index : Nat) (level : Tightening)
  | deadlineStart (seconds : Nat)
  | deadlineStop
  | reboot
deriving DecidableEq, Repr

/-- A sequence entry (R93). -/
structure SeqEntry where
  trigger : SeqTrigger
  actions : List Action
deriving DecidableEq, Repr

/-- Watch modes (R96). -/
inductive WatchMode where
  | once | every
deriving DecidableEq, Repr

/-- A watch entry with its fired mark (R96). -/
structure WatchEntry where
  trigger : WatchTrigger
  mode : WatchMode
  actions : List Action
  fired : Bool
deriving DecidableEq, Repr

/-- The deadline (R102): STOPPED, or RUNNING with the whole seconds that remain, rounded up. -/
inductive Deadline where
  | stopped
  | running (seconds : Nat)
deriving DecidableEq, Repr

/-- The Sequence and Watch Unit (R93, R96, R102). -/
structure Schedule where
  sequence : List SeqEntry
  cursor : Nat
  watch : List WatchEntry
  deadline : Deadline
deriving DecidableEq, Repr

/-- Line roles (R104). -/
inductive LineRole where
  | unused | scheduleOut | hostOut | input
deriving DecidableEq, Repr

/-- Line polarities (R104). -/
inductive Polarity where
  | activeHigh | activeLow
deriving DecidableEq, Repr

/-- A manifest's configuration of one line (section 11.1). -/
structure LineConfig where
  role : LineRole
  polarity : Polarity
  initialAsserted : Bool
deriving DecidableEq, Repr

/-- The sensing state of a line (R106): the level on its pin, its settled level (absent while not yet settled;
`true` is ASSERTED) and whether its settling timer runs. -/
structure Sense where
  pinHigh : Bool
  settled : Option Bool
  timer : Bool
deriving DecidableEq, Repr

/-- One of L1 to L4 (R104). `driven` is the electrical level the part drives, absent on a line it does not drive. -/
structure CtlLine where
  role : Option LineRole
  polarity : Polarity
  driven : Option Bool
  sense : Sense
deriving DecidableEq, Repr

/-- The Line Unit (R104 to R107). `ctl` holds L1 to L4 in order. -/
structure LineUnit where
  l0Asserted : Bool
  ctl : Vector CtlLine 4
  l5 : Sense
deriving DecidableEq, Repr

/-! ## Measurement Stack, flags, Quote Unit (chapters 6 and 7) -/

/-- Measurement entry tags (R109). -/
inductive Tag where
  | empty | opened | closed
deriving DecidableEq, Repr

/-- A measurement entry (R109). -/
structure MeasEntry where
  tag : Tag
  label : Bytes
  value : Bytes
  count : BitVec 16
  folded : Bool
deriving DecidableEq, Repr

/-- The Measurement Stack (R109). Its overflow response is `Params.overflow`. -/
structure Stack where
  entries : Vector MeasEntry 8
  top : Nat
deriving DecidableEq, Repr

/-- The ten condition flags (R123). -/
inductive Flag where
  | trialBoot | fallbackBoot | recoveryBoot | recoveryRequested | reverted | manifestRejected
  | stackFolded | stageOrder | incidentThreshold | unlockLockout
deriving DecidableEq, Repr

/-- The Quote Unit (R129). -/
structure QuoteUnit where
  counter : BitVec 32
  startEpoch : Option Nat
deriving DecidableEq, Repr

/-! ## Update Controller and Credential Store (chapters 8 and 9) -/

/-- Update session states (R140). -/
inductive Session where
  | closed | opened | verifying | staged
deriving DecidableEq, Repr

/-- Store states (R160). -/
inductive StoreState where
  | unset | locked | unlocked | lockedOut
deriving DecidableEq, Repr

/-- The Credential Store's volatile state (R160). WIPE_PENDING is the presence of the wipe marker. -/
structure CredStore where
  state : StoreState
  attempts : Nat
  frozen : Bool
deriving DecidableEq, Repr

/-- Recovery levels (R160). -/
inductive RecoveryLevel where
  | full | wipeOnly
deriving DecidableEq, Repr

/-- Credential kinds (R174). -/
inductive CredKind where
  | secret | key
deriving DecidableEq, Repr

/-- A release policy (R175) as its 42 bytes are sent and listed (R193). -/
structure Policy where
  ownerRequired : Byte
  minEpoch : Byte
  verdicts : Byte
  forbidden : BitVec 16
  presence : Byte
  label : Bytes
  expected : Bytes
deriving DecidableEq, Repr

/-- A credential record (R174). -/
structure Credential where
  label : Bytes
  kind : CredKind
  value : Bytes
  policy : Policy
deriving DecidableEq, Repr

/-- A physical span: its first address and the first address after it (R48). -/
structure Span where
  base : Nat
  limit : Nat
deriving DecidableEq, Repr

/-- The wipe marker (R171, R172). -/
structure WipeMarker where
  spans : List Span
  next : Nat
deriving DecidableEq, Repr

/-- The slot state (R73). -/
structure SlotState where
  committed : Slot
  pending : Option Slot
  trials : Nat
deriving DecidableEq, Repr

/-! ## Incident Log (chapter 10) -/

/-- What a block gives when it logs an incident (R182). -/
structure Incident where
  kind : IncidentKind
  instr : Byte
  region : Byte
  detail : Byte
  addr : Nat
deriving DecidableEq, Repr

/-- An entry of the ring (R182). -/
structure LogEntry where
  seq : BitVec 32
  incident : Incident
  bootCount : BitVec 32
deriving DecidableEq, Repr

/-- The Incident Log (R183 to R186). Counters and thresholds are in code order of the kinds. -/
structure IncidentLog where
  ring : List LogEntry
  seq : BitVec 32
  counters : Vector (BitVec 16) 14
  thresholds : Vector (BitVec 16) 14
deriving DecidableEq, Repr

/-! ## Nonvolatile state -/

/-- A root-key hash slot with its revoked bit (Fuse Block). -/
structure RootKey where
  hash : Bytes
  revoked : Bool
deriving DecidableEq, Repr

/-- The Fuse Block (00_scope, Fuse Block fields). -/
structure Fuses where
  uds : Bytes
  serial : Bytes
  key0 : RootKey
  key1 : RootKey
  epochBits : BitVec 64
  recoveryVerifier : Bytes
  sizeExponent : Nat
  readByte : Byte
  engineAddrLen : Nat
  busyBit : Nat
  ma : Nat
  mb : Nat
  mr : Nat
  recoveryBase : Nat
  recoveryLimit : Nat
  /-- Power-up levels of L1 to L4, `true` is high. -/
  powerUp : Vector Bool 4
deriving DecidableEq, Repr

/-- The Record Store (00_scope, Record Store records). -/
structure RecordStore where
  slots : SlotState
  bootCount : BitVec 32
  revertCount : BitVec 16
  failedTotal : BitVec 32
  verifier : Option Bytes
  recoveryLevel : RecoveryLevel
  creds : Vector (Option Credential) 16
  marker : Option WipeMarker
deriving DecidableEq, Repr

/-! ## Operations in progress -/

/-- The supply and the pins that are not control lines. `coldPowerDue` says that the supply rose with RESET_N
held, so the start that follows its release is COLD_POWER (R68). -/
structure Pins where
  supply : Bool
  resetAsserted : Bool
  hcsAsserted : Bool
  coldPowerDue : Bool
deriving DecidableEq, Repr

/-- The identity key: d, and Q as its coordinates x then y (R127). -/
structure IdentityKey where
  d : Nat
  q : Bytes
deriving DecidableEq, Repr

/-- The part's own operation in progress, apart from a write (R60, R70, R172): what its next step waits for, with what
the Verification Engine's scratch state holds for it. The completion and a start end both (R63, R128). -/
inductive Job where
  | idle
  /-- The ready wait of R70 item 7. -/
  | startWait
  /-- A selection manifest check (R81). -/
  | selectCheck (step : SelectStep)
  /-- A manifest has passed; the start-up entries are due (R89). -/
  | startUpEntries
  /-- STAGE_UPDATE's ready wait (R145). -/
  | stageWait
  /-- STAGE_UPDATE's manifest check (R145). -/
  | stageCheck
  /-- A wipe's ready wait before a granule (R172). -/
  | granuleWait
  /-- A granule's WRITE_ENABLE, ERASE_4K and ready wait (R20). -/
  | granuleErase
  /-- That ready wait has completed; the erase is due to be reported (R20). -/
  | granuleErased
  /-- EXTEND's hash over this input (R114, R118). -/
  | extendHash (input : Bytes)
  /-- GET_IDENTITY's derivation, with d and Q held for this execution only (R128). -/
  | deriveIdentity (key : IdentityKey)
  /-- QUOTE's signature over this assembled body, with d and Q held for this execution only (R128, R131, R134). -/
  | signQuote (key : IdentityKey) (body : Bytes)
  /-- SET_OWNER's verifier computation (R166). -/
  | computeVerifier (proof : Bytes)
  /-- UNLOCK's comparison (R167). -/
  | compareOwner (proof : Bytes)
  /-- RECOVER's comparison; `wipe` is its action (R169). -/
  | compareRecovery (proof : Bytes) (wipe : Bool)
  /-- MAC_WITH_CREDENTIAL's computation (R179). -/
  | computeMac (key data : Bytes)
deriving DecidableEq, Repr

/-- What a passing staging check reports (R146). -/
structure Staged where
  slot : Slot
  keyIndex : Nat
  securityVersion : Nat
  imageVersion : Nat
  epoch : Nat
deriving DecidableEq, Repr

/-- Which confirm steps have been performed (R156, R158). -/
structure ConfirmSteps where
  slotState : Bool
  epoch : Bool
  revocation : Bool
deriving DecidableEq, Repr

/-- A Record Store or Fuse Block write in progress, with what the operation that made it needs to go on. -/
inductive Write where
  /-- R70 item 5. -/
  | bootCount
  /-- R76: trials remaining one less, before this slot's manifest is checked. -/
  | trialDecrement (slot : Slot)
  /-- R76, R77: pending none and trials 0; `expired` tells R77 from R76. -/
  | pendingCleared (slot : Slot) (expired : Bool)
  /-- R74: the revert count, after the slot-state write. -/
  | revertCount (slot : Slot) (expired : Bool)
  /-- R146. -/
  | pendingSet (staged : Staged)
  /-- R150. -/
  | abortPending
  /-- R157, one value of the slot state. -/
  | confirmSlot (value : SlotState)
  /-- R153. -/
  | confirmEpoch (steps : ConfirmSteps)
  /-- R155. -/
  | confirmRevoke (steps : ConfirmSteps)
  /-- R165 step 1. -/
  | failedTotal
  /-- R166. -/
  | ownerVerifier (verifier : Bytes)
  /-- R170. -/
  | recoveryLevel (level : RecoveryLevel)
  /-- R171. -/
  | wipe (spans : List Span)
  /-- R172: the marker advanced or removed. -/
  | markerAdvance
  /-- R176. -/
  | putCredential (index : Nat) (credential : Credential)
  /-- R177. -/
  | deleteCredential (index : Nat)
deriving DecidableEq, Repr

end Sys2Proof.Machine
end

