-- ==== Sys2Proof/Machine/State.lean ====
section
/-! DEFINITION. The state of the part, why a step can stop, and the state right after reset. -/

namespace Sys2Proof.Machine

/-- Why a step stops: a command that cannot arrive in the state it is offered in, so that the manual gives it
no effect there (assumption 6). Every one is raised by a meaning and is safe: the part itself never meets the case. -/
inductive Fault where
  /-- A pin, supply or chip-select event to the level already held. Raised by HOST_TRANSACTION_BEGIN and END,
  SUPPLY_RISE and FALL, RESET_N_ASSERT and RELEASE. Safe. -/
  | levelHeld
  /-- A Host Port byte that cannot arrive in the transaction's phase or against its class's data direction.
  Raised by the Host Port's steps. Safe. -/
  | wrongPhase
  /-- The byte's class, or the transaction's, is not the step's. Raised by the Host Port's steps. Safe. -/
  | wrongClass
  /-- The completed address is not of the entry's length. Raised by READ, PROGRAM and the erases. Safe. -/
  | wrongAddressLength
  /-- No such request has been dispatched, or another operation is still in progress, or the request's owner is in
  a state in which the request cannot arrive (the dashes of R141's table). Raised by the 27 request steps. Safe. -/
  | notDispatched
  /-- A step that reads the running manifest while none is loaded; no window exists then (R49). Raised by requests
  that read the running manifest, by the steps that complete them, and by window bytes. Safe. -/
  | noManifest
  /-- No operation of that kind is in progress. Raised by the completion steps and WRITE_TAKES_EFFECT. Safe. -/
  | notInProgress
  /-- The line is not sensed or its timer does not run. Raised by LINE_PIN_CHANGE and LINE_SETTLING_EXPIRY. Safe. -/
  | notSensed
deriving DecidableEq, Repr

/-- Why a command has no meaning. No meaning of this model refuses. -/
inductive Refusal where
  /-- An arm of `exec` that has no meaning yet, by its row's mnemonic. Safe. -/
  | notModelled (mnemonic : String)
deriving DecidableEq, Repr

/-- The state of the part: one field a block, then the operations in progress and the commands that wait. -/
structure State where
  pins : Pins
  host : HostRecord
  port : FlashPort
  /-- The listed entries of the Instruction Class Table (R4). -/
  classes : List ClassRow
  regions : RegionTable
  window : Window
  boot : BootSelector
  schedule : Schedule
  lines : LineUnit
  stack : Stack
  /-- The ten condition flags, at the bit positions of section 11.5 (R123). -/
  flags : BitVec 10
  quote : QuoteUnit
  session : Session
  cred : CredStore
  log : IncidentLog
  fuses : Fuses
  store : RecordStore
  /-- The Verification Engine's checked copy of the manifest, while it is kept (R81). What the engine holds for one
  execution stands in `job`. -/
  scratch : Bytes
  job : Job
  write : Option Write
  /-- The commands that wait, first in first out. -/
  pending : List Instr
deriving DecidableEq, Repr

/-- A step's effect so far: it goes on, or a start has begun and ended it (R63, R101). -/
inductive Flow where
  | on (s : State)
  | restarted (s : State)
deriving DecidableEq, Repr

/-- What a step answers. -/
abbrev Result := Host.Outcome State Fault Refusal

/-! ## Start values -/

/-- The record when no transaction is on the bus (section 1.1). -/
def HostRecord.idle : HostRecord :=
  { phase := .idle, instr := none, entry := none, judgement := none, addrBytes := [], addr := none,
    decision := none, fillLatched := false, fillLogged := false, stream := none, dummyCount := 0,
    dataCount := 0, discarding := false, breakLogged := false, driven := none }

/-- The record that has lost its transaction to a start or to RESET_N (R21, R68). -/
def HostRecord.abandoned : HostRecord :=
  { HostRecord.idle with phase := .abandoned }

/-- The IDLE frame (R64). -/
def ResponseFrame.idle : ResponseFrame :=
  { code := 0, status := .idle, overrun := 0, tag := 0, body := [] }

/-- The window at each start (R50). -/
def Window.start : Window :=
  { state := .idle, buffer := [], header := none, frameLength := none, overrun := 0,
    response := .idle, dispatched := none }

/-- The empty Region Table (R22). -/
def RegionTable.start : RegionTable :=
  { defaultRule := .noAccess, records := [] }

/-- The Sequence and Watch Unit at each start (section 5.7). -/
def Schedule.start : Schedule :=
  { sequence := [], cursor := 0, watch := [], deadline := .stopped }

/-- An entry at each start (R109). -/
def MeasEntry.start : MeasEntry :=
  { tag := .empty, label := List.replicate 4 0, value := List.replicate 32 0, count := 0,
    folded := false }

/-- The stack at each start (R109). -/
def Stack.start : Stack :=
  { entries := Vector.replicate 8 MeasEntry.start, top := 0 }

/-- A control line before the load, with no role and driven at its fuse level (R104). Its polarity then is
ACTIVE_HIGH, a DESIGN CHOICE (assumption 26): the manual gives none, and nothing reads it before the load sets it. -/
def CtlLine.start (fuseHigh pinHigh : Bool) : CtlLine :=
  { role := none, polarity := .activeHigh, driven := some fuseHigh,
    sense := { pinHigh := pinHigh, settled := none, timer := false } }

/-- The log when cleared (R187). -/
def IncidentLog.start : IncidentLog :=
  { ring := [], seq := 0, counters := Vector.replicate 14 0, thresholds := Vector.replicate 14 0 }

/-- The factory Record Store (00_scope, Record Store records). -/
def RecordStore.factory : RecordStore :=
  { slots := { committed := .a, pending := none, trials := 0 }, bootCount := 0, revertCount := 0,
    failedTotal := 0, verifier := none, recoveryLevel := .full, creds := Vector.replicate 16 none,
    marker := none }

/-- The Fuse Block at reset: the layout of section 2.9, the levels of section 5.8, epoch 0 and no revoked key,
and zero where the manual gives no value. DESIGN CHOICE (assumption 2), unsafe. -/
def Fuses.reset : Fuses :=
  { uds := List.replicate 32 0, serial := List.replicate 8 0,
    key0 := { hash := List.replicate 32 0, revoked := false },
    key1 := { hash := List.replicate 32 0, revoked := false },
    epochBits := 0, recoveryVerifier := List.replicate 32 0,
    sizeExponent := Config.resetSizeExponent, readByte := 0, engineAddrLen := 3, busyBit := 0,
    ma := Config.resetMA, mb := Config.resetMB, mr := Config.resetMR,
    recoveryBase := Config.resetRecoveryBase, recoveryLimit := Config.resetRecoveryLimit,
    powerUp := Vector.replicate 4 true }

/-- The part right after reset: a factory part whose first COLD_POWER start has just begun (R70, items 1 to 4
have taken effect and the boot-count write of item 5 is in progress), HCS_N and RESET_N released, every line's
pin high. DESIGN CHOICE (assumptions 1 to 3) where the manual gives no value. -/
def State.reset : State :=
  { pins := { supply := true, resetAsserted := false, hcsAsserted := false, coldPowerDue := false },
    host := .idle,
    port := { owner := .engine, openTx := .none, readyPoll := none },
    classes := [],
    regions := .start,
    window := .start,
    boot := { phase := .selecting, cause := .coldPower, rejected := [], outcome := .absent,
              sample := none },
    schedule := .start,
    lines := { l0Asserted := true, ctl := Vector.replicate 4 (CtlLine.start true true),
               l5 := { pinHigh := true, settled := none, timer := true } },
    stack := .start,
    flags := 0,
    quote := { counter := 0, startEpoch := none },
    session := .closed,
    cred := { state := .unset, attempts := 0, frozen := false },
    log := .start,
    fuses := .reset,
    store := .factory,
    scratch := [],
    job := .idle,
    write := some .bootCount,
    pending := [] }

end Sys2Proof.Machine
end

