-- ==== Sys2Proof/Machine/Operands.lean ====
section
/-! DEFINITION. The code values of section 11.5, the incident details, the request table of section 11.3 and the
byte layouts of the frames and of the structures that responses carry (chapter 11). -/

namespace Sys2Proof.Machine

/-! ## Code values (section 11.5) -/

def InstrClass.code : InstrClass → Byte
  | .read => 1 | .program => 2 | .erase4k => 3 | .erase32k => 4 | .erase64k => 5 | .eraseAll => 6
  | .writeEnable => 7 | .writeDisable => 8 | .statusRead => 9 | .pass => 10 | .deny => 11

def Access.code : Access → Byte
  | .openAll => 1 | .readOnly => 2 | .noAccess => 3

def Tightening.code : Tightening → Byte
  | .none => 0 | .readOnly => 2 | .noAccess => 3

def Verdict.code : Verdict → Byte
  | .normal => 1 | .trial => 2 | .fallback => 3 | .recovery => 4

def Slot.code : Slot → Byte
  | .a => 1 | .b => 2

/-- A pending slot of none is written as 0 (R194). -/
def slotCode : Option Slot → Byte
  | none => 0
  | some slot => slot.code

def RunSlot.code : RunSlot → Byte
  | .a => 1 | .b => 2 | .r => 3

def Cause.code : Cause → Byte
  | .coldPower => 1 | .coldPin => 2 | .warmRequest => 3 | .warmSchedule => 4 | .warmDeadline => 5

def Session.code : Session → Byte
  | .closed => 0 | .opened => 1 | .verifying => 2 | .staged => 3

def StoreState.code : StoreState → Byte
  | .unset => 0 | .locked => 1 | .unlocked => 2 | .lockedOut => 3

def Tag.code : Tag → Byte
  | .empty => 0 | .opened => 1 | .closed => 2

def CredKind.code : CredKind → Byte
  | .secret => 1 | .key => 2

def RecoveryLevel.code : RecoveryLevel → Byte
  | .full => 1 | .wipeOnly => 2

def VerifyReason.code : VerifyReason → Byte
  | .header => 1 | .signature => 2 | .keyRevoked => 3 | .rollback => 4 | .structure => 5 | .digest => 6

/-- A flag's bit position. -/
def Flag.bit : Flag → Nat
  | .trialBoot => 0 | .fallbackBoot => 1 | .recoveryBoot => 2 | .recoveryRequested => 3 | .reverted => 4
  | .manifestRejected => 5 | .stackFolded => 6 | .stageOrder => 7 | .incidentThreshold => 8
  | .unlockLockout => 9

def IncidentKind.code : IncidentKind → Byte
  | .instrDenied => 1 | .readFilled => 2 | .boundaryFill => 3 | .writeRefused => 4 | .portHeld => 5
  | .frameBad => 6 | .requestOverrun => 7 | .manifestRejected => 8 | .trialExpired => 9
  | .stageFailed => 10 | .unlockFailed => 11 | .credDenied => 12 | .stackRefused => 13
  | .deadlineExpired => 14

/-- A kind's place among the counters and thresholds: kinds 1 to 14 in code order. -/
def IncidentKind.index : IncidentKind → Fin 14
  | .instrDenied => 0 | .readFilled => 1 | .boundaryFill => 2 | .writeRefused => 3 | .portHeld => 4
  | .frameBad => 5 | .requestOverrun => 6 | .manifestRejected => 7 | .trialExpired => 8
  | .stageFailed => 9 | .unlockFailed => 10 | .credDenied => 11 | .stackRefused => 12
  | .deadlineExpired => 13

def Status.code : Status → Byte
  | .ok => 0 | .busy => 1 | .idle => 2 | .badCheck => 3 | .badFrame => 4 | .unknownRequest => 5
  | .badArgument => 6 | .refusedState => 7 | .denied => 8 | .lockedOut => 9 | .frozen => 10
  | .verifyFailed => 11 | .rollback => 12 | .full => 13 | .notFound => 14

/-! ## Incident details (section 11.5) -/

def Detail.none : Byte := 0
def Detail.spanCrosses : Byte := 0x10
def Detail.spanMisaligned : Byte := 0x11
def Detail.responseArea : Byte := 0x12
def Detail.carry : Byte := 0x13
def Detail.eraseAll : Byte := 0x14
def Detail.discontinuous : Byte := 0x20
def Detail.windowEntered : Byte := 0x21
def Detail.windowLeft : Byte := 0x22
def Detail.sequenceBreak : Byte := 0x30
def Detail.pageWrap : Byte := 0x31
def Detail.header : Byte := 0x32
def Detail.check : Byte := 0x33
def Detail.stageOpen : Byte := 0x40
def Detail.stackFull : Byte := 0x41
def Detail.noOpenStage : Byte := 0x42

/-- The region index of a gap, and of an incident no record applies to (R25, R182). -/
def noRegion : Byte := 0xFF

/-- Denial reason bits: OWNER, EPOCH, VERDICT, FLAGS, STAGE, KIND. -/
def Reason.owner : Byte := 1
def Reason.epoch : Byte := 2
def Reason.verdict : Byte := 4
def Reason.flags : Byte := 8
def Reason.stage : Byte := 16
def Reason.kind : Byte := 32

/-! ## Requests (section 11.3) -/

def Request.code : Request → Byte
  | .getStatus => 1 | .setLines => 2 | .tightenRegion => 3 | .reboot => 4 | .openStage => 5
  | .extend => 6 | .closeStage => 7 | .readMeasurements => 8 | .getIdentity => 9 | .quote => 10
  | .openUpdate => 11 | .stageUpdate => 12 | .abortUpdate => 13 | .confirmBoot => 14
  | .setOwner => 15 | .unlock => 16 | .lock => 17 | .recover => 18 | .setRecoveryLevel => 19
  | .freeze => 20 | .wipe => 21 | .putCredential => 22 | .getCredential => 23
  | .deleteCredential => 24 | .listCredentials => 25 | .macWithCredential => 26 | .readLog => 27

/-- The 27 requests in code order. -/
def Request.all : List Request :=
  [.getStatus, .setLines, .tightenRegion, .reboot, .openStage, .extend, .closeStage,
   .readMeasurements, .getIdentity, .quote, .openUpdate, .stageUpdate, .abortUpdate, .confirmBoot,
   .setOwner, .unlock, .lock, .recover, .setRecoveryLevel, .freeze, .wipe, .putCredential,
   .getCredential, .deleteCredential, .listCredentials, .macWithCredential, .readLog]

/-- The request a code names, if one of the 27 (R59). -/
def Request.ofCode (code : Byte) : Option Request :=
  Request.all.find? fun r => r.code == code

/-- The shortest and longest body each request's layout admits (R193). -/
def Request.bodyRange : Request → Nat × Nat
  | .setLines | .tightenRegion => (2, 2)
  | .openStage => (4, 4)
  | .extend | .setOwner | .unlock => (32, 32)
  | .quote | .recover => (33, 33)
  | .setRecoveryLevel | .getCredential | .deleteCredential => (1, 1)
  | .putCredential => (54, 117)
  | .macWithCredential => (1, 4001)
  | .readLog => (5, 5)
  | .getStatus | .reboot | .closeStage | .readMeasurements | .getIdentity | .openUpdate
  | .stageUpdate | .abortUpdate | .confirmBoot | .lock | .freeze | .wipe | .listCredentials => (0, 0)

/-- Whether a body length is one the request's layout admits (R193). -/
def Request.admitsLength (r : Request) (n : Nat) : Bool :=
  decide (r.bodyRange.1 ≤ n) && decide (n ≤ r.bodyRange.2)

/-! ## Frames (section 11.2) -/

/-- The request magic (section 11.2). -/
def requestMagic : Bytes := [0x45, 0x4A, 0x51]

/-- The response magic (section 11.2). -/
def responseMagic : Byte := 0xA5

/-- The header in the first 8 bytes of a request buffer (R55, section 11.2). -/
def decodeHeader (buffer : Bytes) : FrameHeader :=
  { magic := slice buffer 0 3, code := byteAt buffer 3,
    tag := BitVec.ofNat 16 (ofLe (slice buffer 4 2)), bodyLength := ofLe (slice buffer 6 2) }

/-- The header and body of a response frame (section 11.2). -/
def ResponseFrame.unchecked (f : ResponseFrame) : Bytes :=
  [responseMagic, f.code, f.status.code, f.overrun] ++ le 2 f.tag.toNat ++ le 2 f.body.length ++ f.body

/-- A response frame's bytes, its check last and low byte first (R61, R192). -/
def ResponseFrame.bytes (f : ResponseFrame) : Bytes :=
  f.unchecked ++ le 2 (frameCheck f.unchecked).toNat

/-- Whether a complete request frame's check matches (R56, R192). -/
def frameCheckMatches (frame : Bytes) : Bool :=
  decide ((frameCheck (frame.take (frame.length - 2))).toNat = ofLe (frame.drop (frame.length - 2)))

/-! ## Structures that responses carry (section 11.4) -/

/-- A measurement entry with its index, 41 bytes. -/
def MeasEntry.bytes (index : Nat) (e : MeasEntry) : Bytes :=
  [byteOf index, e.tag.code] ++ e.label ++ e.value ++ le 2 e.count.toNat ++ [byteOfBool e.folded]

/-- A log entry, 16 bytes. -/
def LogEntry.bytes (e : LogEntry) : Bytes :=
  le 4 e.seq.toNat
    ++ [e.incident.kind.code, e.incident.instr, e.incident.region, e.incident.detail]
    ++ le 4 e.incident.addr ++ le 4 e.bootCount.toNat

/-- A release policy, 42 bytes, as sent (R193). -/
def Policy.bytes (p : Policy) : Bytes :=
  [p.ownerRequired, p.minEpoch, p.verdicts] ++ le 2 p.forbidden.toNat ++ [p.presence] ++ p.label
    ++ p.expected

/-- The release policy in the 42 bytes of a PUT_CREDENTIAL body (section 11.3). -/
def Policy.ofBytes (bs : Bytes) : Policy :=
  { ownerRequired := byteAt bs 0, minEpoch := byteAt bs 1, verdicts := byteAt bs 2,
    forbidden := BitVec.ofNat 16 (ofLe (slice bs 3 2)), presence := byteAt bs 5,
    label := slice bs 6 4, expected := slice bs 10 32 }

/-- A credential list entry, 53 bytes; it does not hold the value (R180). -/
def Credential.listing (index : Nat) (c : Credential) : Bytes :=
  [byteOf index] ++ c.label ++ [c.kind.code, byteOf c.value.length] ++ c.policy.bytes

end Sys2Proof.Machine
end

