-- ==== Sys2Proof/Machine/Ops.lean ====
section
/-! DEFINITION. The operations every block shares: going on or being ended by a start, beginning a start (R70),
beginning a write, completing a request (R61), the readings of the fuses and of the store, and time (R102). -/

namespace Sys2Proof.Machine

/-! ## A step's effect -/

/-- Goes on with `next` unless a start has ended the step (R63, R92). -/
def Flow.andThen (f : Flow) (next : State → Flow) : Flow :=
  match f with
  | .on s => next s
  | .restarted s => .restarted s

/-- The state a step's effect leaves. -/
def Flow.state : Flow → State
  | .on s => s
  | .restarted s => s

/-- A step's effect as the step's answer. -/
def Flow.result (f : Flow) : Result :=
  .next f.state

/-- The part runs: the supply is up and RESET_N is released. Otherwise RESET_N or the loss of the supply has ended
what the part was doing, with everything that was yet to come of it (R68, R141, R173): the part's own steps, its
requests and the expiries of its timers then change nothing (assumptions 14 and 15). -/
def State.alive (s : State) : Bool :=
  s.pins.supply && !s.pins.resetAsserted

/-! ## Updates, one a block -/

def State.setHost (s : State) (v : HostRecord) : State := { s with host := v }
def State.setPort (s : State) (v : FlashPort) : State := { s with port := v }
def State.setWindow (s : State) (v : Window) : State := { s with window := v }
def State.setBoot (s : State) (v : BootSelector) : State := { s with boot := v }
def State.setSchedule (s : State) (v : Schedule) : State := { s with schedule := v }
def State.setLines (s : State) (v : LineUnit) : State := { s with lines := v }
def State.setRegions (s : State) (v : RegionTable) : State := { s with regions := v }
def State.setStack (s : State) (v : Stack) : State := { s with stack := v }
def State.setFlags (s : State) (v : BitVec 10) : State := { s with flags := v }
def State.setQuote (s : State) (v : QuoteUnit) : State := { s with quote := v }
def State.setSession (s : State) (v : Session) : State := { s with session := v }
def State.setCred (s : State) (v : CredStore) : State := { s with cred := v }
def State.setLog (s : State) (v : IncidentLog) : State := { s with log := v }
def State.setFuses (s : State) (v : Fuses) : State := { s with fuses := v }
def State.setStore (s : State) (v : RecordStore) : State := { s with store := v }
def State.setJob (s : State) (v : Job) : State := { s with job := v }
def State.setWrite (s : State) (v : Option Write) : State := { s with write := v }
def State.setPins (s : State) (v : Pins) : State := { s with pins := v }
def State.setScratch (s : State) (v : Bytes) : State := { s with scratch := v }
def State.setClasses (s : State) (v : List ClassRow) : State := { s with classes := v }

/-! ## Readings -/

/-- F, the size of the flash (00_scope, Logical and physical addresses). -/
def State.flashSize (s : State) : Nat :=
  2 ^ s.fuses.sizeExponent

/-- The number of blown bits (R152). -/
def epochValue (bits : BitVec 64) : Nat :=
  (List.range 64).countP fun i => bits.getLsbD i

/-- The thermometer with bits 0 to `n` - 1 blown (R152). -/
def thermometer (n : Nat) : BitVec 64 :=
  BitVec.ofNat 64 (2 ^ n - 1)

/-- The epoch (R152). -/
def State.epoch (s : State) : Nat :=
  epochValue s.fuses.epochBits

/-- A slot's manifest address (section 4.4). -/
def Fuses.manifestAddress (f : Fuses) : Slot → Nat
  | .a => f.ma
  | .b => f.mb

/-- The slot other than the given one (section 4.4). -/
def Slot.other : Slot → Slot
  | .a => .b
  | .b => .a

/-- A slot as a running slot. -/
def Slot.run : Slot → RunSlot
  | .a => .a
  | .b => .b

/-- WIPE_PENDING: the presence of the wipe marker (R160). -/
def State.wipePending (s : State) : Bool :=
  s.store.marker.isSome

/-- The store attributes byte (section 11.5). -/
def State.storeAttributes (s : State) : Byte :=
  byteOfBool s.cred.frozen ||| byteOfBool s.wipePending <<< 1

/-- The two revoked bits (section 11.4). -/
def Fuses.revokedBits (f : Fuses) : Byte :=
  byteOfBool f.key0.revoked ||| byteOfBool f.key1.revoked <<< 1

/-- What selection set, when a manifest is loaded. -/
def State.booted (s : State) : Option Booted :=
  match s.boot.outcome with
  | .booted b => some b
  | .absent | .halted => none

/-! ## Condition flags (R123) -/

/-- Sets a flag; a set flag stays set. -/
def State.raiseFlag (s : State) (f : Flag) : State :=
  s.setFlags (s.flags ||| (1#10 <<< f.bit))

/-- Whether a flag is set. -/
def State.flagSet (s : State) (f : Flag) : Bool :=
  s.flags.getLsbD f.bit

/-! ## Beginning a start (R70) -/

/-- The store state a start finds (R160). -/
def startStoreState (r : RecordStore) : StoreState :=
  if r.verifier.isSome then .locked else .unset

/-- A control line when a start begins or RESET_N is held: no role, driven at its fuse level (R104). -/
def CtlLine.toFuseLevel (c : CtlLine) (fuseHigh : Bool) : CtlLine :=
  CtlLine.start fuseHigh c.sense.pinHigh

/-- L0 asserted and L1 to L4 at their fuse levels (R68, R70 item 1). L5 goes on being sensed. -/
def State.linesHeld (s : State) : LineUnit :=
  { s.lines with
    l0Asserted := true
    ctl := Vector.ofFn fun i => (s.lines.ctl.get i).toFuseLevel (s.fuses.powerUp.get i) }

/-- The Host Port record after a start or an assertion of RESET_N (R21, R68). -/
def State.hostAbandoned (s : State) : HostRecord :=
  if s.pins.hcsAsserted then .abandoned else .idle

/-- Every volatile state at its start value, and the Boot Selector at the values of R69 (R70 items 1 to 4). -/
def State.volatileAtStart (s : State) (cause : Cause) : State :=
  { s with
    host := s.hostAbandoned
    port := { owner := .engine, openTx := .none,
              readyPoll := if cause = .coldPower then none else s.port.readyPoll }
    classes := []
    regions := .start
    window := .start
    boot := { phase := .selecting, cause := cause, rejected := [], outcome := .absent, sample := none }
    schedule := .start
    lines := { s.linesHeld with l5 := { s.lines.l5 with settled := none, timer := true } }
    stack := .start
    flags := 0
    quote := { counter := 0, startEpoch := none }
    session := .closed
    cred := { state := startStoreState s.store, attempts := 0, frozen := false }
    log := match cause with
      | .coldPower | .coldPin => .start
      | .warmRequest | .warmSchedule | .warmDeadline =>
        { IncidentLog.start with ring := s.log.ring, seq := s.log.seq }
    scratch := []
    job := .idle
    write := none }

/-- A start begins: items 1 to 4 of R70 take effect and the boot-count write of item 5 is in progress. -/
def State.beginStart (s : State) (cause : Cause) : State :=
  (s.volatileAtStart cause).setWrite (some .bootCount)

/-! ## Writes and requests -/

/-- A Record Store or Fuse Block write begins; WRITE_TAKES_EFFECT ends it (R68). -/
def State.beginWrite (s : State) (w : Write) : State :=
  s.setWrite (some w)

/-- The response that completes the request in execution (R61). -/
def Window.completed (w : Window) (status : Status) (body : Bytes) : Window :=
  let h := w.header.getD { magic := [], code := 0, tag := 0, bodyLength := 0 }
  { w with
    state := .done
    buffer := []
    header := none
    frameLength := none
    response := { code := h.code, status := status, overrun := w.overrun, tag := h.tag, body := body }
    dispatched := none }

/-- Completes the request in execution with a status and a body (R61). -/
def State.respond (s : State) (status : Status) (body : Bytes) : State :=
  s.setWindow (s.window.completed status body)

/-- The body of the frame in execution (R51, R60). -/
def Window.requestBody (w : Window) : Bytes :=
  slice w.buffer 8 (w.buffer.length - 10)

/-- The owner takes a dispatched request with its body; no other operation is in progress then, since one request
executes at a time (R60). -/
def takeRequest (r : Request) (s : State) (owner : Bytes → State → Result) : Result :=
  if s.alive then
    if s.window.state = .executing ∧ s.window.dispatched = some r ∧ s.job = .idle ∧ s.write = none then
      owner s.window.requestBody (s.setWindow { s.window with dispatched := none })
    else .fault .notDispatched
  else .next s

/-- The owner of a request that reads the running manifest; a window exists only while one is loaded (R49). -/
def withBooted (s : State) (owner : Booted → Result) : Result :=
  match s.booted with
  | some b => owner b
  | none => .fault .noManifest

/-! ## The Flash Port's owner (R17) -/

/-- The port is taken for the Verification Engine, at once (R17). -/
def State.takePort (s : State) : State :=
  s.setPort { s.port with owner := .engine }

/-- The port is handed back after the engine's last transaction (R17). -/
def State.returnPort (s : State) : State :=
  s.setPort { s.port with owner := .hostPass, openTx := .none }

/-- The listed entry of a class with the lowest instruction byte (R19, R20). -/
def lowestRow (rows : List ClassRow) (admitted : ClassEntry → Bool) : Option ClassRow :=
  rows.foldl (init := none) fun best row =>
    if admitted row.entry then
      match best with
      | none => some row
      | some b => if row.byte.toNat < b.byte.toNat then some row else some b
    else best

/-- The live table's polling entry (R19). -/
def pollOf (rows : List ClassRow) : Option PollEntry :=
  (lowestRow rows fun e => e.cls = .statusRead).map fun row =>
    { byte := row.byte, dummy := row.entry.dummy, lanes := row.entry.lanes }

/-- Whether the host's transaction may still be forwarded: it was judged HOST_PASS and its address, on which the
decision waits, is not complete (R3, R6). -/
def HostRecord.mayForward (h : HostRecord) : Bool :=
  decide (h.phase = .address) && decide (h.judgement = some .hostPass) && h.decision.isNone

/-- The engine's waiting status read opens once no host transaction is open (R17, R19). DESIGN CHOICE (assumption 25):
it also waits while the host's transaction may still be forwarded, to the release of HCS_N. R3 forwards a transaction
judged HOST_PASS even after the port is taken, and R17 gives the wait for one already open only; so R145's check and
R172's erasing begin after the one in its address phase has ended too. -/
def State.engineTurn (s : State) : State :=
  if s.host.mayForward then s
  else
    match s.port.openTx, s.job with
    | .none, .startWait => s.setPort { s.port with openTx := .engineStatus s.port.readyPoll }
    | .none, .stageWait => s.setPort { s.port with openTx := .engineStatus (pollOf s.classes) }
    | .none, .granuleWait => s.setPort { s.port with openTx := .engineStatus (pollOf s.classes) }
    | _, _ => s

/-! ## Time (R102, assumption 8) -/

/-- What the internal oscillator does while no command waits: one second passes on a RUNNING deadline, whose last
second ends by DEADLINE_EXPIRY. -/
def State.tick (s : State) : State :=
  match s.alive, s.schedule.deadline with
  | true, .running n => s.setSchedule { s.schedule with deadline := .running (max 1 (n - 1)) }
  | _, _ => s

end Sys2Proof.Machine
end

