-- ==== Sys2Proof/Machine/Lines.lean ====
section
/-! DEFINITION. The Line Unit (sections 5.6): polarities, sensing and settling, roles at the load, and
SET_LINES (R108). -/

namespace Sys2Proof.Machine

/-- The place of L1 to L4 in the Line Unit. -/
def lineIndex : Line → Option (Fin 4)
  | .l1 => some 0
  | .l2 => some 1
  | .l3 => some 2
  | .l4 => some 3
  | .l0 | .l5 => none

/-- The electrical level of a level, by polarity: `true` is high (R104). -/
def Polarity.electrical : Polarity → Bool → Bool
  | .activeHigh, asserted => asserted
  | .activeLow, asserted => !asserted

/-- The level of an electrical level, by polarity: `true` is ASSERTED (R104). -/
def Polarity.level : Polarity → Bool → Bool
  | .activeHigh, high => high
  | .activeLow, high => !high

/-! ## Sensing (R106, R107) -/

/-- The pin level changes: the timer starts afresh, or stops where the pin level equals the settled level (R106). -/
def Sense.pinChanged (x : Sense) (p : Polarity) (high : Bool) : Sense :=
  { x with pinHigh := high, timer := decide (x.settled ≠ some (p.level high)) }

/-- The timer runs out: the settled level becomes the pin level (R106). -/
def Sense.settle (x : Sense) (p : Polarity) : Sense :=
  { x with settled := some (p.level x.pinHigh), timer := false }

/-- A line that begins to be sensed: not yet settled, its timer running (R106). -/
def Sense.begin (x : Sense) : Sense :=
  { x with settled := none, timer := true }

/-- L5 is asserted when low (R107). -/
def l5Polarity : Polarity := .activeLow

/-- Replaces one of L1 to L4. -/
def State.setCtl (s : State) (i : Fin 4) (c : CtlLine) : State :=
  s.setLines { s.lines with ctl := s.lines.ctl.set i c }

/-- Replaces L5's sensing state. -/
def State.setL5 (s : State) (x : Sense) : State :=
  s.setLines { s.lines with l5 := x }

/-! ## Roles (R104) -/

/-- Whether a role drives its line. -/
def LineRole.drives : LineRole → Bool
  | .scheduleOut | .hostOut => true
  | .input | .unused => false

/-- A line takes its manifest role (R104): an output is driven at its initial level, an INPUT begins to be sensed. The
pin level it then holds is the board's last, kept from the last LINE_PIN_CHANGE or from reset: DESIGN CHOICE (assumption
27), since R106 does not say what is on the pin as the part stops driving it. -/
def CtlLine.load (c : CtlLine) (cfg : LineConfig) : CtlLine :=
  { role := some cfg.role
    polarity := cfg.polarity
    driven := if cfg.role.drives then some (cfg.polarity.electrical cfg.initialAsserted) else none
    sense := if cfg.role = .input then c.sense.begin else { c.sense with settled := none, timer := false } }

/-- L1 to L4 take their manifest roles together (R88, R104). -/
def LineUnit.load (u : LineUnit) (cfgs : Vector LineConfig 4) : LineUnit :=
  { u with ctl := Vector.ofFn fun i => (u.ctl.get i).load (cfgs.get i) }

/-- Drives a line at a level if it has the given role, through its polarity (R99, R108). -/
def CtlLine.drive (c : CtlLine) (role : LineRole) (asserted : Bool) : CtlLine :=
  if c.role = some role then { c with driven := some (c.polarity.electrical asserted) } else c

/-- LINE_SET: drives a SCHEDULE_OUT line (R99). -/
def State.lineSet (s : State) (line : Line) (asserted : Bool) : State :=
  match lineIndex line with
  | some i => s.setCtl i ((s.lines.ctl.get i).drive .scheduleOut asserted)
  | none => s

/-! ## SET_LINES (R108) -/

/-- A reported level: 0 RELEASED, 1 ASSERTED (section 11.4). -/
def levelByte : Bool → Byte
  | false => 0
  | true => 1

/-- A sensed line's reported level; 2 is NOT_SETTLED (section 11.4). -/
def Sense.report (x : Sense) : Byte :=
  match x.settled with
  | some level => levelByte level
  | none => 2

/-- A control line's reported level; 3 is NOT_SENSED (R108, section 11.4). -/
def CtlLine.report (c : CtlLine) : Byte :=
  match c.role with
  | some .input => c.sense.report
  | some .scheduleOut | some .hostOut =>
    match c.driven with
    | some high => levelByte (c.polarity.level high)
    | none => 3
  | some .unused | none => 3

/-- Whether SET_LINES applies to a control line: its mask bit is set and its role is HOST_OUT (R108). -/
def State.appliesTo (s : State) (mask : Byte) (i : Fin 4) : Bool :=
  mask.getLsbD (i.val + 1) && decide ((s.lines.ctl.get i).role = some .hostOut)

/-- The applied mask (R108): bits 1 to 4 only. -/
def State.appliedMask (s : State) (mask : Byte) : Byte :=
  byteOfBool (s.appliesTo mask 0) <<< 1 ||| byteOfBool (s.appliesTo mask 1) <<< 2
    ||| byteOfBool (s.appliesTo mask 2) <<< 3 ||| byteOfBool (s.appliesTo mask 3) <<< 4

/-- The lines of the applied mask at their requested levels (R108). -/
def State.applyLevels (s : State) (mask levels : Byte) : LineUnit :=
  { s.lines with
    ctl := Vector.ofFn fun i =>
      if s.appliesTo mask i then (s.lines.ctl.get i).drive .hostOut (levels.getLsbD (i.val + 1))
      else s.lines.ctl.get i }

/-- The six level bytes, L0 to L5 (R108). -/
def LineUnit.report (u : LineUnit) : Bytes :=
  [levelByte u.l0Asserted, (u.ctl.get 0).report, (u.ctl.get 1).report, (u.ctl.get 2).report,
   (u.ctl.get 3).report, u.l5.report]

/-- SET_LINES (R108). -/
def execSetLines (s : State) : Result :=
  takeRequest .setLines s fun body t =>
    let u := t.applyLevels (byteAt body 0) (byteAt body 1)
    .next ((t.setLines u).respond .ok (t.appliedMask (byteAt body 0) :: u.report))

end Sys2Proof.Machine
end

