-- ==== Sys2Proof/Machine/Regions.lean ====
section
/-! DEFINITION. The Address Path (chapter 2): lookup, translation, the effective rule, tightening, and what it
answers other blocks. Also TIGHTEN_REGION (R46). -/

namespace Sys2Proof.Machine

/-! ## Lookup (R25, R26) -/

/-- Whether a record holds a logical address. -/
def RegionRecord.holds (r : RegionRecord) (a : Nat) : Bool :=
  decide (r.base ≤ a) && decide (a < r.limit)

/-- The first address of the gap that holds `a`: the nearest limit at or below it, or 0. -/
def gapFirst (records : List RegionRecord) (a : Nat) : Nat :=
  records.foldl (fun m r => if r.limit ≤ a then max m r.limit else m) 0

/-- The first address after the gap that holds `a`: the nearest base above it, or F. -/
def gapLimit (records : List RegionRecord) (size a : Nat) : Nat :=
  records.foldl (fun m r => if a < r.base then min m r.base else m) size

/-- The segment that holds `a` (R26). -/
def State.lookup (s : State) (a : Nat) : Segment :=
  match s.regions.records.findIdx? fun r => r.holds a with
  | some i => .record i
  | none => .gap (gapFirst s.regions.records a) (gapLimit s.regions.records s.flashSize a)

/-- The record a segment names, if it is one. -/
def State.recordOf (s : State) : Segment → Option RegionRecord
  | .record i => s.regions.records[i]?
  | .gap _ _ => none

/-- Whether a segment holds a logical address. -/
def State.inSegment (s : State) (seg : Segment) (a : Nat) : Bool :=
  match seg, s.recordOf seg with
  | .gap first limit, _ => decide (first ≤ a) && decide (a < limit)
  | .record _, some r => r.holds a
  | .record _, none => false

/-- A segment's region index in incidents (R25). -/
def Segment.region : Segment → Byte
  | .record i => byteOf i
  | .gap _ _ => noRegion

/-- Whether a segment is the MAILBOX record (R31). -/
def State.isMailbox (s : State) (seg : Segment) : Bool :=
  match s.recordOf seg with
  | some r => decide (r.rule = .mailbox)
  | none => false

/-- The MAILBOX record and its index (R48, R49). -/
def State.mailbox (s : State) : Option (Nat × RegionRecord) :=
  (s.regions.records.findIdx? fun r => decide (r.rule = .mailbox)).bind fun i =>
    s.regions.records[i]?.map fun r => (i, r)

/-! ## Translation (R27) -/

/-- P(slot) of a record, where the manual gives one (R27). -/
def RegionRecord.physicalBase (r : RegionRecord) : Slot → Nat
  | .a => r.pa
  | .b => r.pb

/-- The slot a view translates into (R27). -/
def State.viewSlot (s : State) : View → Option Slot
  | .none => none
  | .running => match s.booted with
    | some { running := .a, .. } => some .a
    | some { running := .b, .. } => some .b
    | _ => none
  | .spare => s.booted.map (·.target)

/-- The physical address of `a` in a segment (R27). Where a view has no slot the manual gives no address, and a
free value stands for it (assumption 9). -/
def State.translate (s : State) (seg : Segment) (a : Nat) : Nat :=
  match s.recordOf seg with
  | none => a
  | some r =>
    match r.view, s.viewSlot r.view with
    | .none, _ => a
    | _, some slot => r.physicalBase slot + (a - r.base)
    | _, none => Config.unstatedTranslation a

/-- Whether a physical address can be carried in an entry's address length (R14). -/
def ClassEntry.carries (e : ClassEntry) (physical : Nat) : Bool :=
  decide (physical < 2 ^ (8 * e.addrLen))

/-! ## The effective rule (R28 to R32) -/

/-- Strictness: OPEN < READ_ONLY < NO_ACCESS (R28). -/
def Access.rank : Access → Nat
  | .openAll => 0 | .readOnly => 1 | .noAccess => 2

/-- The stricter of two rules (R28). -/
def Access.stricter (x y : Access) : Access :=
  if x.rank < y.rank then y else x

/-- A tightening level applied to a base rule (R28). -/
def Tightening.apply : Tightening → Access → Access
  | .none, x => x
  | .readOnly, x => x.stricter .readOnly
  | .noAccess, x => x.stricter .noAccess

/-- The base rule of an OWNER record (R29). -/
def State.ownerRule (s : State) : Access :=
  match s.cred.state with
  | .unlocked => .openAll
  | .unset => if s.wipePending then .noAccess else .openAll
  | .locked | .lockedOut => .noAccess

/-- The base rule of a SPARE record (R30). -/
def Session.spareRule : Session → Access
  | .closed => .noAccess
  | .opened => .openAll
  | .verifying | .staged => .readOnly

/-- The base rule of a record (R28). The MAILBOX record has no effective rule (R31); every caller has served it
before asking, and here it allows nothing. -/
def State.baseRule (s : State) (r : RegionRecord) : Access :=
  match r.rule with
  | .openAll => .openAll
  | .readOnly => .readOnly
  | .noAccess | .mailbox => .noAccess
  | .owner => s.ownerRule
  | .spare => s.session.spareRule

/-- The effective rule of a segment as things stand now (R28). -/
def State.effectiveRule (s : State) (seg : Segment) : Access :=
  match s.recordOf seg with
  | none => s.regions.defaultRule
  | some r => r.tight.apply (s.baseRule r)

/-! ## Tightening (R45 to R47) -/

/-- Strictness of tightening levels: none < READ_ONLY < NO_ACCESS (R46). -/
def Tightening.rank : Tightening → Nat
  | .none => 0 | .readOnly => 1 | .noAccess => 2

/-- Sets the tightening level of the record at an index. -/
def State.setTightening (s : State) (index : Nat) (level : Tightening) : State :=
  s.setRegions
    { s.regions with records := s.regions.records.modify index fun r => { r with tight := level } }

/-- Raises a record's level if `level` is stricter than the present one (R47). -/
def State.tighten (s : State) (index : Nat) (level : Tightening) : State :=
  match s.regions.records[index]? with
  | some r => if r.tight.rank < level.rank then s.setTightening index level else s
  | none => s

/-- The level a TIGHTEN_REGION body names: READ_ONLY or NO_ACCESS (R46). -/
def tighteningLevel (b : Byte) : Option Tightening :=
  if b = 2 then some .readOnly else if b = 3 then some .noAccess else none

/-- TIGHTEN_REGION (R46): the first line of the table that applies. -/
def execTightenRegion (s : State) : Result :=
  takeRequest .tightenRegion s fun body t =>
    let index := (byteAt body 0).toNat
    match t.regions.records[index]?, tighteningLevel (byteAt body 1) with
    | none, _ => .next (t.respond .badArgument [])
    | some r, level =>
      if r.rule = .mailbox then .next (t.respond .badArgument [])
      else match level with
        | none => .next (t.respond .badArgument [])
        | some level =>
          if level.rank < r.tight.rank then .next (t.respond .badArgument [])
          else .next ((t.setTightening index level).respond .ok [byteAt body 0, level.code])

/-! ## Owner spans (R48) -/

/-- The physical spans of the live OWNER records, in ascending base order (R48). -/
def State.ownerSpans (s : State) : List Span :=
  (s.regions.records.filter fun r => decide (r.rule = .owner)).map fun r =>
    { base := r.base, limit := r.limit }

end Sys2Proof.Machine
end

