-- ==== Sys2Proof/Machine/Schedule.lean ====
section
/-! DEFINITION. The Sequence and Watch Unit (sections 5.1 to 5.5): actions, the sequence, the watch list and the
deadline. -/

namespace Sys2Proof.Machine

/-! ## Actions (R98 to R102) -/

/-- An UNLOCKED store becomes LOCKED; any other is unchanged (R100, R168). -/
def CredStore.locked (c : CredStore) : CredStore :=
  if c.state = .unlocked then { c with state := .locked } else c

/-- The FROZEN attribute is set (R100, R168). -/
def CredStore.freeze (c : CredStore) : CredStore :=
  { c with frozen := true }

/-- Sets the deadline (R102). -/
def State.setDeadline (s : State) (d : Deadline) : State :=
  s.setSchedule { s.schedule with deadline := d }

/-- One action (section 5.4). REBOOT begins a warm start and so ends whatever is in progress (R101). -/
def runAction (s : State) : Action → Flow
  | .lineSet line asserted => .on (s.lineSet line asserted)
  | .freezeStore => .on (s.setCred s.cred.freeze)
  | .lockStore => .on (s.setCred s.cred.locked)
  | .tighten index level => .on (s.tighten index level)
  | .deadlineStart seconds => .on (s.setDeadline (.running seconds))
  | .deadlineStop => .on (s.setDeadline .stopped)
  | .reboot => .restarted (s.beginStart .warmSchedule)

/-- An entry's actions in their listed order; those after a REBOOT do not run (R95, R98). -/
def runActions (s : State) : List Action → Flow
  | [] => .on s
  | a :: rest => (runAction s a).andThen fun t => runActions t rest

/-! ## The sequence (R93 to R95) -/

/-- The entry now waiting, unless the sequence is stopped (R93). -/
def Schedule.waiting (c : Schedule) : Option SeqEntry :=
  match c.sequence[c.cursor]? with
  | some e => if e.trigger = .endMark then none else some e
  | none => none

/-- A sequence trigger arrives: a match fires the waiting entry and then advances the cursor; anything else is
discarded (R94). -/
def offerSequence (trigger : SeqTrigger) (s : State) : Flow :=
  match s.schedule.waiting with
  | some e =>
    if e.trigger = trigger then
      (runActions s e.actions).andThen fun t =>
        .on (t.setSchedule { t.schedule with cursor := t.schedule.cursor + 1 })
    else .on s
  | none => .on s

/-! ## The watch list (R96, R97) -/

/-- Whether an arriving trigger fires an entry (R97). -/
def WatchEntry.firesOn (e : WatchEntry) (trigger : WatchTrigger) : Bool :=
  decide (e.trigger = trigger) && !(decide (e.mode = .once) && e.fired)

/-- Sets the fired mark of the entry at an index (R97). -/
def State.markFired (s : State) (index : Nat) : State :=
  s.setSchedule
    { s.schedule with watch := s.schedule.watch.modify index fun e => { e with fired := true } }

/-- The entries from an index on consider an arriving trigger, in ascending index (R97). -/
def fireFrom (trigger : WatchTrigger) : Nat → List WatchEntry → State → Flow
  | _, [], s => .on s
  | index, e :: rest, s =>
    if e.firesOn trigger then
      (runActions (s.markFired index) e.actions).andThen fun t => fireFrom trigger (index + 1) rest t
    else fireFrom trigger (index + 1) rest s

/-- A watch trigger arrives at the watch list (R97). -/
def fireWatch (trigger : WatchTrigger) (s : State) : Flow :=
  fireFrom trigger 0 s.schedule.watch s

end Sys2Proof.Machine
end

