-- ==== Sys2Proof/Machine/Flags.lean ====
section
/-! DEFINITION. Logging an incident (R182 to R186): the ring, the counters, and the threshold that sets
INCIDENT_THRESHOLD and raises THRESHOLD. Also DEADLINE_EXPIRY (R103) and READ_LOG (R189). -/

namespace Sys2Proof.Machine

/-! ## The ring and the counters -/

/-- The ring with a new entry; the oldest of 32 is removed in the same step (R183). -/
def ringAppend (ring : List LogEntry) (e : LogEntry) : List LogEntry :=
  if ring.length < Config.ringCapacity then ring ++ [e] else ring.drop 1 ++ [e]

/-- The entry is appended unless the sequence counter is saturated (R182 to R184). -/
def IncidentLog.append (l : IncidentLog) (i : Incident) (bootCount : BitVec 32) : IncidentLog :=
  if l.seq = BitVec.allOnes 32 then l
  else
    { l with
      seq := l.seq + 1
      ring := ringAppend l.ring { seq := l.seq + 1, incident := i, bootCount := bootCount } }

/-- The kind's counter rises, saturating (R185). -/
def IncidentLog.count (l : IncidentLog) (k : IncidentKind) : IncidentLog :=
  { l with counters := l.counters.set k.index (satInc (l.counters.get k.index)) }

/-- Steps 1 to 3 of R182: the entry is formed with the present boot count and appended, and the counter rises. -/
def State.recordIncident (s : State) (i : Incident) : State :=
  s.setLog ((s.log.append i s.store.bootCount).count i.kind)

/-- Whether recording an incident of this kind reaches its threshold (R186). -/
def IncidentLog.reaches (l : IncidentLog) (k : IncidentKind) : Bool :=
  let before := l.counters.get k.index
  let after := satInc before
  decide (before ≠ after) && decide (l.thresholds.get k.index ≠ 0)
    && decide (after = l.thresholds.get k.index)

/-- Logs an incident (R182): records it, and where its threshold is reached sets INCIDENT_THRESHOLD and raises
THRESHOLD to the watch list (R186). -/
def logIncident (i : Incident) (s : State) : Flow :=
  if s.log.reaches i.kind then
    fireWatch (.threshold i.kind) ((s.recordIncident i).raiseFlag .incidentThreshold)
  else .on (s.recordIncident i)

/-- An incident not caused by a host transaction (R182): instruction byte 0. -/
def plainIncident (kind : IncidentKind) (region detail : Byte) (addr : Nat) : Incident :=
  { kind := kind, instr := 0, region := region, detail := detail, addr := addr }

/-! ## The deadline's expiry (R103) -/

/-- DEADLINE_EXPIRY: the last second of a RUNNING deadline has passed. The incident is recorded, the THRESHOLD it may
raise is ended by the start, and a WARM_DEADLINE start begins. A DEADLINE_START or a stop that was taken first leaves
nothing to expire: the deadline runs on with its time, or stays STOPPED (R103, assumption 8). -/
def execDeadlineExpiry (s : State) : Result :=
  if s.alive then
    match s.schedule.deadline with
    | .running n =>
      if n ≤ 1 then
        .next ((s.recordIncident (plainIncident .deadlineExpired noRegion Detail.none 0)).beginStart
          .warmDeadline)
      else .next s
    | .stopped => .next s
  else .next s

/-! ## READ_LOG (R189) -/

/-- The sequence number of the newest entry, 0 when the ring is empty (R190). -/
def IncidentLog.newest (l : IncidentLog) : BitVec 32 :=
  match l.ring.getLast? with
  | some e => e.seq
  | none => 0

/-- The sequence number of the oldest entry, 0 when the ring is empty (R189). -/
def IncidentLog.oldest (l : IncidentLog) : BitVec 32 :=
  match l.ring.head? with
  | some e => e.seq
  | none => 0

/-- The entries a READ_LOG returns: those at or above the starting number, oldest first, at most `maximum` (R189). -/
def IncidentLog.selected (l : IncidentLog) (start maximum : Nat) : List LogEntry :=
  (l.ring.filter fun e => decide (start ≤ e.seq.toNat)).take maximum

/-- The READ_LOG body (section 11.4). -/
def IncidentLog.readBody (l : IncidentLog) (start maximum : Nat) : Bytes :=
  le 4 l.oldest.toNat ++ le 4 l.newest.toNat
    ++ (l.counters.toList.flatMap fun c => le 2 c.toNat)
    ++ [byteOf (l.selected start maximum).length]
    ++ (l.selected start maximum).flatMap LogEntry.bytes

/-- READ_LOG (R189). -/
def execReadLog (s : State) : Result :=
  takeRequest .readLog s fun body t =>
    let start := ofLe (slice body 0 4)
    let maximum := (byteAt body 4).toNat
    if 1 ≤ maximum ∧ maximum ≤ 32 then .next (t.respond .ok (t.log.readBody start maximum))
    else .next (t.respond .badArgument [])

end Sys2Proof.Machine
end

