-- ==== Sys2Proof/Machine/Hash.lean ====
section
/-! DEFINITION. SHA-256 and HMAC-SHA-256, which the manual names (00_scope, Algorithms) and does not define.
PRESUMED (assumption 7): the published definitions, FIPS 180-4 and RFC 2104. -/

namespace Sys2Proof.Machine

/-- A 32-bit word of SHA-256. -/
abbrev ShaWord := BitVec 32

/-- The eight working words. -/
structure ShaState where
  a : ShaWord
  b : ShaWord
  c : ShaWord
  d : ShaWord
  e : ShaWord
  f : ShaWord
  g : ShaWord
  h : ShaWord
deriving DecidableEq, Repr

/-- Whether a number below 361 is prime. -/
def isSmallPrime (n : Nat) : Bool :=
  decide (2 ≤ n) && (List.range 18).all fun d => decide (d < 2) || decide (n ≤ d) || decide (n % d ≠ 0)

/-- The first 64 primes, ascending. -/
def shaPrimes : List Nat :=
  (List.range 312).filter isSmallPrime

/-- The whole part of the `k`-th root of `n`, by its bits from 34 down. -/
def wholeRoot (k n : Nat) : Nat :=
  (List.range 35).foldr (fun bit r => if (r + 2 ^ bit) ^ k ≤ n then r + 2 ^ bit else r) 0

/-- The first 32 bits after the point of the `k`-th root of `p`. -/
def rootFraction (k p : Nat) : ShaWord :=
  BitVec.ofNat 32 (wholeRoot k (p * 2 ^ (32 * k)))

/-- The round constants: of the cube roots of the first 64 primes (FIPS 180-4, section 4.2.2). -/
def shaConstants : List ShaWord :=
  shaPrimes.map (rootFraction 3)

/-- The initial hash value: of the square roots of the first eight primes (FIPS 180-4, section 5.3.3). -/
def shaInitial : ShaState :=
  { a := rootFraction 2 2, b := rootFraction 2 3, c := rootFraction 2 5, d := rootFraction 2 7,
    e := rootFraction 2 11, f := rootFraction 2 13, g := rootFraction 2 17, h := rootFraction 2 19 }

/-- The message schedule's lower sigma 0. -/
def shaSigma0 (x : ShaWord) : ShaWord :=
  x.rotateRight 7 ^^^ x.rotateRight 18 ^^^ (x >>> 3)

/-- The message schedule's lower sigma 1. -/
def shaSigma1 (x : ShaWord) : ShaWord :=
  x.rotateRight 17 ^^^ x.rotateRight 19 ^^^ (x >>> 10)

/-- Extends a message schedule, held newest word first, by `n` words. -/
def shaExtend : Nat → List ShaWord → List ShaWord
  | 0, ws => ws
  | n + 1, ws =>
    shaExtend n
      ((shaSigma1 (ws.getD 1 0) + ws.getD 6 0 + shaSigma0 (ws.getD 14 0) + ws.getD 15 0) :: ws)

/-- The first `n` words of a block, each most significant byte first. -/
def shaWords : Nat → Bytes → List ShaWord
  | 0, _ => []
  | n + 1, bs => BitVec.ofNat 32 (ofBe (bs.take 4)) :: shaWords n (bs.drop 4)

/-- One round. -/
def shaRound (s : ShaState) (kw : ShaWord × ShaWord) : ShaState :=
  let big1 := s.e.rotateRight 6 ^^^ s.e.rotateRight 11 ^^^ s.e.rotateRight 25
  let choose := (s.e &&& s.f) ^^^ (~~~s.e &&& s.g)
  let t1 := s.h + big1 + choose + kw.1 + kw.2
  let big0 := s.a.rotateRight 2 ^^^ s.a.rotateRight 13 ^^^ s.a.rotateRight 22
  let majority := (s.a &&& s.b) ^^^ (s.a &&& s.c) ^^^ (s.b &&& s.c)
  { a := t1 + (big0 + majority), b := s.a, c := s.b, d := s.c, e := s.d + t1, f := s.e, g := s.f,
    h := s.g }

/-- One 64-byte block. -/
def shaBlock (s : ShaState) (block : Bytes) : ShaState :=
  let ws := (shaExtend 48 (shaWords 16 block).reverse).reverse
  let t := (shaConstants.zip ws).foldl shaRound s
  { a := s.a + t.a, b := s.b + t.b, c := s.c + t.c, d := s.d + t.d, e := s.e + t.e, f := s.f + t.f,
    g := s.g + t.g, h := s.h + t.h }

/-- `n` blocks from the front of a padded message. -/
def shaBlocks : Nat → Bytes → ShaState → ShaState
  | 0, _, s => s
  | n + 1, bs, s => shaBlocks n (bs.drop 64) (shaBlock s (bs.take 64))

/-- The padded message. -/
def shaPad (m : Bytes) : Bytes :=
  m ++ [0x80] ++ List.replicate ((119 - m.length % 64) % 64) 0 ++ be 8 (8 * m.length)

/-- SHA-256: 32 bytes. -/
@[irreducible] def sha256 (m : Bytes) : Bytes :=
  let t := shaBlocks ((shaPad m).length / 64) (shaPad m) shaInitial
  [t.a, t.b, t.c, t.d, t.e, t.f, t.g, t.h].flatMap fun w => be 4 w.toNat

/-- A key as HMAC uses it: hashed when longer than a block, then filled to 64 bytes. -/
def hmacKey (key : Bytes) : Bytes :=
  let k := if 64 < key.length then sha256 key else key
  k ++ List.replicate (64 - k.length) 0

/-- HMAC-SHA-256 (00_scope, Algorithms: MAC). -/
@[irreducible] def hmac (key message : Bytes) : Bytes :=
  sha256 ((hmacKey key).map (· ^^^ 0x5c#8) ++ sha256 ((hmacKey key).map (· ^^^ 0x36#8) ++ message))

end Sys2Proof.Machine
end

