-- ==== Sys2Proof/Machine/Curve.lean ====
section
/-! DEFINITION. ECDSA over P-256 with SHA-256 and the deterministic per-signature value, which the manual names
(00_scope, Algorithms) and does not define. PRESUMED (assumption 7): the published definitions, FIPS 186-4 and
RFC 6979. -/

namespace Sys2Proof.Machine

/-- The field prime of P-256. -/
def p256Prime : Nat := 0xFFFFFFFF00000001000000000000000000000000FFFFFFFFFFFFFFFFFFFFFFFF

/-- The order n of the base point (R127). -/
def p256Order : Nat := 0xFFFFFFFF00000000FFFFFFFFFFFFFFFFBCE6FAADA7179E84F3B9CAC2FC632551

/-- The coefficient b of P-256. -/
def p256B : Nat := 0x5AC635D8AA3A93E7B3EBBD55769886BC651D06B0CC53B0F63BCE3C3E27D2604B

/-- An affine point, or the point at infinity. -/
abbrev Point := Option (Nat × Nat)

/-- The base point G. -/
def p256Base : Point :=
  some (0x6B17D1F2E12C4247F8BCE6E563A440F277037D812DEB33A0F4A13945D898C296,
    0x4FE342E2FE1A7F9B8EE7EB4A7C0F9E162BCE33576B315ECECBB6406837BF51F5)

/-- `b ^ e mod m` over the low `n` bits of `e`. -/
def modPow (m : Nat) : Nat → Nat → Nat → Nat
  | 0, _, _ => 1
  | n + 1, b, e =>
    let rest := modPow m n (b * b % m) (e / 2)
    if e % 2 = 1 then b * rest % m else rest

/-- The inverse modulo a prime below 2^256. -/
def modInv (m a : Nat) : Nat :=
  modPow m 256 (a % m) (m - 2)

/-- The third point on a line of slope `t`, reflected. -/
def chord (t x1 y1 x2 : Nat) : Point :=
  let p := p256Prime
  let x3 := (t * t + (p - x1) + (p - x2)) % p
  some (x3, (t * (x1 + (p - x3)) + (p - y1)) % p)

/-- Point addition. -/
def pointAdd : Point → Point → Point
  | none, q => q
  | p, none => p
  | some (x1, y1), some (x2, y2) =>
    let p := p256Prime
    if x1 = x2 then
      if (y1 + y2) % p = 0 then none
      else chord ((3 * x1 * x1 + (p - 3)) * modInv p (2 * y1) % p) x1 y1 x2
    else chord ((y2 + (p - y1)) * modInv p (x2 + (p - x1)) % p) x1 y1 x2

/-- `k × q` over the low `n` bits of `k`. -/
def pointMul : Nat → Nat → Point → Point
  | 0, _, _ => none
  | n + 1, k, q =>
    let rest := pointMul n (k / 2) (pointAdd q q)
    if k % 2 = 1 then pointAdd q rest else rest

/-- Whether two coordinates name a point on P-256 (R83). -/
def onCurve (x y : Nat) : Bool :=
  let p := p256Prime
  decide (x < p) && decide (y < p) &&
    decide (y * y % p = (x * x % p * x + (p - 3) * x + p256B) % p)

/-- ECDSA verification of `r`, `s` over the digest `digest` with the public key `(x, y)` (R84). -/
@[irreducible] def ecdsaVerify (x y : Nat) (digest : Bytes) (r s : Nat) : Bool :=
  let n := p256Order
  let w := modInv n s
  let u := pointMul 256 (ofBe digest * w % n) p256Base
  let v := pointMul 256 (r * w % n) (some (x, y))
  decide (1 ≤ r) && decide (r < n) && decide (1 ≤ s) && decide (s < n) &&
    match pointAdd u v with
    | none => false
    | some (px, _) => decide (px % n = r)

/-- The signature pair that per-signature value `k` gives. -/
def ecdsaWith (d e k : Nat) : Nat × Nat :=
  let n := p256Order
  let r := match pointMul 256 k p256Base with
    | none => 0
    | some (x, _) => x % n
  (r, modInv n k * ((e + r * d) % n) % n)

/-- The search of RFC 6979 section 3.2 step h, over at most `fuel` candidates. -/
def nonceSearch (d e : Nat) : Nat → Bytes → Bytes → Nat × Nat
  | 0, _, _ => ecdsaWith d e (Config.nonceBeyondSearch e)
  | fuel + 1, key, v =>
    let v' := hmac key v
    let k := ofBe v'
    let sig := ecdsaWith d e k
    if 1 ≤ k ∧ k < p256Order ∧ sig.1 ≠ 0 ∧ sig.2 ≠ 0 then sig
    else
      let key' := hmac key (v' ++ [0x00])
      nonceSearch d e fuel key' (hmac key' v')

/-- ECDSA signing of a digest with the private key `d`: r and s (R134). -/
@[irreducible] def ecdsaSign (d : Nat) (digest : Bytes) : Nat × Nat :=
  let e := ofBe digest
  let seed := be 32 d ++ be 32 (e % p256Order)
  let v0 := List.replicate 32 (0x01 : Byte)
  let k1 := hmac (List.replicate 32 0x00) (v0 ++ [0x00] ++ seed)
  let v1 := hmac k1 v0
  let k2 := hmac k1 (v1 ++ [0x01] ++ seed)
  nonceSearch d e 64 k2 (hmac k2 v1)

/-- The public point `d × G` (R127). -/
@[irreducible] def publicPoint (d : Nat) : Point :=
  pointMul 256 d p256Base

end Sys2Proof.Machine
end

