-- ==== Sys2Proof/Machine/Manifest.lean ====
section
/-! DEFINITION. Engine reads (R18), the manifest's layout (section 11.1) and the manifest check (section 4.5). -/

namespace Sys2Proof.Machine

/-! ## Engine reads (R18) -/

/-- The byte the flash holds at an address; an address not listed is erased (assumption 5). -/
def flashAt (image : FlashImage) (address : Nat) : Byte :=
  match image.find? fun cell => cell.1 == address with
  | some cell => cell.2
  | none => 0xFF

/-- The address an engine read sends: modulo 2^24 when the engine address length is 3 (R18). -/
def Fuses.engineAddress (f : Fuses) (p : Nat) : Nat :=
  if f.engineAddrLen = 3 then p % 2 ^ 24 else p

/-- `n` bytes read by the engine from physical `p`; the flash's own address wrap applies (R18). -/
def Fuses.engineRead (f : Fuses) (image : FlashImage) (p n : Nat) : Bytes :=
  (List.range n).map fun i => flashAt image ((f.engineAddress p + i) % 2 ^ f.sizeExponent)

/-- The Flash Port transaction of an engine read (R18). -/
def Fuses.engineReadTx (f : Fuses) (p : Nat) : OpenTransaction :=
  .engineRead f.readByte (f.engineAddress p) f.engineAddrLen

/-! ## The fuse check (R72) -/

/-- Whether two stretches of addresses, each by its first address and length, overlap. -/
def overlaps (a m b n : Nat) : Bool :=
  decide (a < b + n) && decide (b < a + m)

/-- Whether a manifest area begins on a granule and lies wholly below F (R72). -/
def Fuses.areaUsable (f : Fuses) (p : Nat) : Bool :=
  decide (p % Config.granule = 0) && decide (p + Config.manifestArea ≤ 2 ^ f.sizeExponent)

/-- The length of the recovery span. -/
def Fuses.recoverySize (f : Fuses) : Nat :=
  f.recoveryLimit - f.recoveryBase

/-- Whether a stretch overlaps the recovery span. -/
def Fuses.meetsRecovery (f : Fuses) (p n : Nat) : Bool :=
  overlaps p n f.recoveryBase f.recoverySize

/-- The fuse check (R72): every condition of its list. -/
def Fuses.usable (f : Fuses) : Bool :=
  let area := Config.manifestArea
  (decide (20 ≤ f.sizeExponent) && decide (f.sizeExponent ≤ 28))
    && (decide (f.engineAddrLen = 4) || (decide (f.engineAddrLen = 3) && decide (f.sizeExponent ≤ 24)))
    && decide (f.busyBit ≤ 7)
    && (f.areaUsable f.ma && f.areaUsable f.mb && f.areaUsable f.mr)
    && !(overlaps f.ma area f.mb area || overlaps f.ma area f.mr area || overlaps f.mb area f.mr area)
    && (decide (f.recoveryBase % Config.granule = 0) && decide (f.recoveryLimit % Config.granule = 0)
      && decide (f.recoveryBase < f.recoveryLimit) && decide (f.recoveryLimit ≤ 2 ^ f.sizeExponent))
    && !(f.meetsRecovery f.ma area || f.meetsRecovery f.mb area)
    && decide (f.epochBits = thermometer (epochValue f.epochBits))

/-! ## The manifest (section 11.1) -/

/-- A manifest's fields and tables, as parsed from the checked copy. -/
structure Manifest where
  kind : ManifestKind
  params : Params
  defaultRule : Access
  classes : List ClassRow
  records : List RegionRecord
  lines : Vector LineConfig 4
  thresholds : Vector (BitVec 16) 14
  sequence : List SeqEntry
  watch : List WatchEntry
deriving DecidableEq, Repr

/-- A number of `n` bytes at an offset. -/
def numAt (bs : Bytes) (k n : Nat) : Nat :=
  ofLe (slice bs k n)

/-- The `n` structures of `size` bytes from an offset. -/
def chunksAt (bs : Bytes) (k size : Nat) : Nat → List Bytes
  | 0 => []
  | n + 1 => slice bs k size :: chunksAt bs (k + size) size n

/-- Every element parses, or the whole does not. -/
def parseAll {α : Type} (parse : Bytes → Option α) : List Bytes → Option (List α)
  | [] => some []
  | c :: cs =>
    match parse c, parseAll parse cs with
    | some x, some xs => some (x :: xs)
    | _, _ => none

/-- The five counts (section 11.1). -/
structure Counts where
  classes : Nat
  records : Nat
  digests : Nat
  sequence : Nat
  watch : Nat
deriving DecidableEq, Repr

def countsOf (bs : Bytes) : Counts :=
  { classes := (byteAt bs 19).toNat, records := (byteAt bs 20).toNat,
    digests := (byteAt bs 21).toNat, sequence := (byteAt bs 22).toNat,
    watch := (byteAt bs 23).toNat }

/-- The declared length, at offset 8. -/
def declaredLength (bs : Bytes) : Nat :=
  numAt bs 8 2

/-- The length the five counts call for (R191). -/
def Counts.length (c : Counts) : Nat :=
  128 + 5 * c.classes + 19 * c.records + 32 * c.digests + 18 * c.sequence + 17 * c.watch + 64

/-- Each count lies in its range (section 11.1). -/
def Counts.inRange (c : Counts) : Bool :=
  decide (1 ≤ c.classes) && decide (c.classes ≤ 64) && decide (1 ≤ c.records) && decide (c.records ≤ 32)
    && decide (c.digests ≤ 32) && decide (c.sequence ≤ 16) && decide (c.watch ≤ 8)

/-! ### Enumerations (section 11.5) -/

def classOf (b : Byte) : Option InstrClass :=
  [.read, .program, .erase4k, .erase32k, .erase64k, .eraseAll, .writeEnable, .writeDisable,
   .statusRead, .pass, .deny].find? fun c => InstrClass.code c == b

def ruleOf (b : Byte) : Option Rule :=
  if b = 1 then some .openAll else if b = 2 then some .readOnly else if b = 3 then some .noAccess
  else if b = 4 then some .owner else if b = 5 then some .spare else if b = 6 then some .mailbox
  else none

/-- The default rule is READ_ONLY or NO_ACCESS (R23). -/
def defaultRuleOf (b : Byte) : Option Access :=
  if b = 2 then some .readOnly else if b = 3 then some .noAccess else none

def viewOf (b : Byte) : Option View :=
  if b = 0 then some .none else if b = 1 then some .running else if b = 2 then some .spare else none

def overflowOf (b : Byte) : Option Overflow :=
  if b = 1 then some .fold else if b = 2 then some .refuse else none

def boolOf (b : Byte) : Option Bool :=
  if b = 0 then some false else if b = 1 then some true else none

def roleOf (b : Byte) : Option LineRole :=
  if b = 0 then some .unused else if b = 1 then some .scheduleOut else if b = 2 then some .hostOut
  else if b = 3 then some .input else none

def polarityOf (b : Byte) : Option Polarity :=
  if b = 0 then some .activeHigh else if b = 1 then some .activeLow else none

def modeOf (b : Byte) : Option WatchMode :=
  if b = 1 then some .once else if b = 2 then some .every else none

def kindOf (b : Byte) : Option IncidentKind :=
  [.instrDenied, .readFilled, .boundaryFill, .writeRefused, .portHeld, .frameBad, .requestOverrun,
   .manifestRejected, .trialExpired, .stageFailed, .unlockFailed, .credDenied, .stackRefused,
   .deadlineExpired].find? fun k => IncidentKind.code k == b

/-- Line numbers are 0 to 5 for L0 to L5 (section 11.1). -/
def lineOf (b : Byte) : Option Line :=
  if b = 0 then some .l0 else if b = 1 then some .l1 else if b = 2 then some .l2
  else if b = 3 then some .l3 else if b = 4 then some .l4 else if b = 5 then some .l5 else none

/-! ### Structures (section 11.1) -/

def parseClass (c : Bytes) : Option ClassRow :=
  (classOf (byteAt c 1)).map fun cls =>
    { byte := byteAt c 0
      entry := { cls := cls, addrLen := (byteAt c 2).toNat, dummy := (byteAt c 3).toNat,
                 lanes := (byteAt c 4).toNat } }

def parseRecord (c : Bytes) : Option RegionRecord :=
  match ruleOf (byteAt c 16), viewOf (byteAt c 17), boolOf (byteAt c 18) with
  | some rule, some view, some measured =>
    some { base := numAt c 0 4, limit := numAt c 4 4, rule := rule, view := view, pa := numAt c 8 4,
           pb := numAt c 12 4, measured := measured, tight := .none }
  | _, _, _ => none

def parseLine (c : Bytes) : Option LineConfig :=
  match roleOf (byteAt c 0), polarityOf (byteAt c 1), boolOf (byteAt c 2) with
  | some role, some polarity, some level =>
    some { role := role, polarity := polarity, initialAsserted := level }
  | _, _, _ => none

/-- An examined action slot (section 11.1); argument bytes the action does not use are not examined. -/
def parseAction (c : Bytes) : Option Action :=
  let code := byteAt c 0
  if code = 1 then
    match lineOf (byteAt c 1), boolOf (byteAt c 2) with
    | some line, some level => some (.lineSet line level)
    | _, _ => none
  else if code = 2 then some .freezeStore
  else if code = 3 then some .lockStore
  else if code = 4 then (tighteningLevel (byteAt c 2)).map fun level => .tighten (byteAt c 1).toNat level
  else if code = 5 then some (.deadlineStart (numAt c 2 2))
  else if code = 6 then some .deadlineStop
  else if code = 7 then some .reboot
  else none

/-- The examined action slots of an entry: `count` of at most three, from an offset (R191). -/
def parseActions (c : Bytes) (k count : Nat) : Option (List Action) :=
  if count ≤ 3 then parseAll parseAction (chunksAt c k 4 count) else none

/-- A sequence entry: END carries no actions, every other trigger 1 to 3 (R86). -/
def parseSeqEntry (c : Bytes) : Option SeqEntry :=
  let count := (byteAt c 5).toNat
  let trigger : Option SeqTrigger :=
    if byteAt c 0 = 1 then some .verified
    else if byteAt c 0 = 2 then some (.stageClosed (slice c 1 4))
    else if byteAt c 0 = 3 then some .confirmed
    else if byteAt c 0 = 4 then some .unlocked
    else if byteAt c 0 = 5 then some .endMark
    else none
  match trigger, parseActions c 6 count with
  | some t, some actions =>
    if (t = .endMark ∧ count = 0) ∨ (t ≠ .endMark ∧ 1 ≤ count) then
      some { trigger := t, actions := actions }
    else none
  | _, _ => none

/-- A watch entry: 1 to 3 actions and a mode (R86). -/
def parseWatchEntry (c : Bytes) : Option WatchEntry :=
  let count := (byteAt c 4).toNat
  let trigger : Option WatchTrigger :=
    if byteAt c 0 = 6 then (kindOf (byteAt c 1)).map .threshold
    else if byteAt c 0 = 7 then
      match lineOf (byteAt c 1), boolOf (byteAt c 2) with
      | some line, some level => some (.line line level)
      | _, _ => none
    else if byteAt c 0 = 8 then some .lockout
    else none
  match trigger, modeOf (byteAt c 3), parseActions c 5 count with
  | some t, some mode, some actions =>
    if 1 ≤ count then some { trigger := t, mode := mode, actions := actions, fired := false } else none
  | _, _, _ => none

/-- Offsets of the variable sections. -/
def Counts.recordsAt (c : Counts) : Nat := 128 + 5 * c.classes
def Counts.digestsAt (c : Counts) : Nat := c.recordsAt + 19 * c.records
def Counts.sequenceAt (c : Counts) : Nat := c.digestsAt + 32 * c.digests
def Counts.watchAt (c : Counts) : Nat := c.sequenceAt + 18 * c.sequence

/-- The parameters the Boot Selector keeps (R88); the manifest-flags byte admits bit 0 only (R191). -/
def parseParams (bs : Bytes) : Option Params :=
  match boolOf (byteAt bs 16), overflowOf (byteAt bs 18) with
  | some revoke, some overflow =>
    some { keyIndex := (byteAt bs 7).toNat, securityVersion := numAt bs 10 2,
           imageVersion := numAt bs 12 4, revokeOther := revoke, overflow := overflow,
           digests := chunksAt bs (countsOf bs).digestsAt 32 (countsOf bs).digests }
  | _, _ => none

/-- The four line configurations. -/
def parseLines (bs : Bytes) : Option (Vector LineConfig 4) :=
  match parseAll parseLine (chunksAt bs 88 3 4) with
  | some [a, b, c, d] => some #v[a, b, c, d]
  | _ => none

/-- The manifest in its checked copy, if its counts, length and enumerations are admitted (R191). -/
def parseManifest (kind : ManifestKind) (bs : Bytes) : Option Manifest :=
  let c := countsOf bs
  if c.inRange ∧ declaredLength bs = c.length then
    match parseParams bs, defaultRuleOf (byteAt bs 17), parseLines bs,
      parseAll parseClass (chunksAt bs 128 5 c.classes),
      parseAll parseRecord (chunksAt bs c.recordsAt 19 c.records),
      parseAll parseSeqEntry (chunksAt bs c.sequenceAt 18 c.sequence),
      parseAll parseWatchEntry (chunksAt bs c.watchAt 17 c.watch) with
    | some params, some rule, some lines, some classes, some records, some sequence, some watch =>
      some { kind := kind, params := params, defaultRule := rule, classes := classes,
             records := records, lines := lines,
             thresholds := Vector.ofFn fun i => BitVec.ofNat 16 (numAt bs (100 + 2 * i.val) 2),
             sequence := sequence, watch := watch }
    | _, _, _, _, _, _, _ => none
  else none

/-! ## The structure step (R86) -/

/-- A listed entry agrees with its class (R5). -/
def ClassEntry.agrees (e : ClassEntry) : Bool :=
  let addressed := decide (e.addrLen = 3) || decide (e.addrLen = 4)
  let shape := match e.cls with
    | .read => addressed && decide (e.dummy ≤ 15)
    | .program | .erase4k | .erase32k | .erase64k => addressed && decide (e.dummy = 0)
    | .eraseAll | .writeEnable | .writeDisable => decide (e.addrLen = 0) && decide (e.dummy = 0)
    | .statusRead => decide (e.addrLen = 0) && decide (e.dummy ≤ 15)
    | .pass | .deny => (addressed || decide (e.addrLen = 0)) && decide (e.dummy ≤ 15)
  shape && (decide (e.lanes = 1) || decide (e.lanes = 2) || decide (e.lanes = 4))

/-- Whether the table lists an entry of a class. -/
def listsClass (rows : List ClassRow) (c : InstrClass) : Bool :=
  rows.any fun row => decide (row.entry.cls = c)

/-- The class table meets R5 and R86. -/
def classesOk (f : Fuses) (rows : List ClassRow) : Bool :=
  rows.all (fun row => row.entry.agrees)
    && decide ((rows.map (·.byte)).Nodup)
    && (decide (f.sizeExponent ≤ 24)
      || rows.any fun row => decide (row.entry.cls = .erase4k) && decide (row.entry.addrLen = 4))
    && [InstrClass.read, .program, .erase4k, .writeEnable, .statusRead].all (listsClass rows)

/-- A record's size. -/
def RegionRecord.size (r : RegionRecord) : Nat :=
  r.limit - r.base

/-- Whether a record translates. -/
def RegionRecord.translates (r : RegionRecord) : Bool :=
  decide (r.view ≠ .none)

/-- The rule and view pairs of R23. -/
def pairAllowed : Rule → View → Bool
  | .openAll, .none => true
  | .readOnly, .none | .readOnly, .running => true
  | .noAccess, .none | .noAccess, .running => true
  | .owner, .none => true
  | .spare, .spare => true
  | .mailbox, .none => true
  | _, _ => false

/-- The conditions of R23 on one record alone. -/
def recordOk (f : Fuses) (kind : ManifestKind) (r : RegionRecord) : Bool :=
  let g := Config.granule
  let size := 2 ^ f.sizeExponent
  (decide (r.base % g = 0) && decide (r.limit % g = 0) && decide (r.base < r.limit)
      && decide (r.limit ≤ size))
    && (!r.translates || (decide (r.pa % g = 0) && decide (r.pb % g = 0)
      && decide (r.pa + r.size ≤ size) && decide (r.pb + r.size ≤ size)))
    && pairAllowed r.rule r.view
    && (!r.measured || (decide (r.view ≠ .spare) && decide (r.rule ≠ .mailbox)))
    && !(decide (kind = .recovery) && decide (r.view = .running))

/-- The condition of R23 on a SPARE record. -/
def spareOk (f : Fuses) (kind : ManifestKind) (records : List RegionRecord) (r : RegionRecord) : Bool :=
  (decide (r.pa = f.ma) && decide (r.pb = f.mb) && decide (r.size ≤ Config.manifestArea))
    || match kind with
      | .slot => records.any fun q =>
          decide (q.view = .running) && decide (q.pa = r.pa) && decide (q.pb = r.pb)
            && decide (q.size = r.size)
      | .recovery => !overlaps r.pa r.size r.pb r.size

/-- Records in strictly ascending base order that do not overlap (R23). -/
def ascending (records : List RegionRecord) : Bool :=
  decide (records.Pairwise fun q r => q.base < r.base ∧ q.limit ≤ r.base)

/-- How many records have a rule. -/
def countRule (records : List RegionRecord) (rule : Rule) : Nat :=
  records.countP fun r => decide (r.rule = rule)

/-- The conditions of R23. -/
def regionsOk (f : Fuses) (kind : ManifestKind) (records : List RegionRecord) : Bool :=
  decide (records.length ≤ 32)
    && ascending records
    && records.all (recordOk f kind)
    && decide (countRule records .mailbox = 1)
    && records.all (fun r => decide (r.rule ≠ .mailbox) || decide (r.size = Config.windowSize))
    && decide (countRule records .owner ≤ 8)
    && records.all fun r => decide (r.rule ≠ .spare) || spareOk f kind records r

/-- The areas of the A side or the B side, each by its first address and length (R24). -/
def sideAreas (f : Fuses) (records : List RegionRecord) (slot : Slot) : List (Nat × Nat) :=
  (f.manifestAddress slot, Config.manifestArea)
    :: (records.filter RegionRecord.translates).map fun r => (r.physicalBase slot, r.size)

/-- The recovery span and the manifest area at MR (R24). -/
def recoveryAreas (f : Fuses) : List (Nat × Nat) :=
  [(f.recoveryBase, f.recoverySize), (f.mr, Config.manifestArea)]

/-- No area of one list overlaps an area of the other. -/
def areasDisjoint (xs ys : List (Nat × Nat)) : Bool :=
  xs.all fun x => ys.all fun y => !overlaps x.1 x.2 y.1 y.2

/-- The physical-area conditions of R24. -/
def areasOk (f : Fuses) (records : List RegionRecord) : Bool :=
  let a := sideAreas f records .a
  let b := sideAreas f records .b
  let writable := (records.filter fun r => decide (r.rule = .openAll) || decide (r.rule = .owner)).map
    fun r => (r.base, r.size)
  areasDisjoint a b && areasDisjoint (a ++ b) (recoveryAreas f)
    && areasDisjoint writable (a ++ b ++ recoveryAreas f)

/-- The configured role of one of L1 to L4. -/
def configuredRole (lines : Vector LineConfig 4) (line : Line) : Option LineRole :=
  match line with
  | .l1 => some (lines.get 0).role
  | .l2 => some (lines.get 1).role
  | .l3 => some (lines.get 2).role
  | .l4 => some (lines.get 3).role
  | .l0 | .l5 => none

/-- An action's arguments are admitted (R86). -/
def actionOk (m : Manifest) : Action → Bool
  | .lineSet line _ => decide (configuredRole m.lines line = some .scheduleOut)
  | .tighten index _ =>
    match m.records[index]? with
    | some r => decide (r.rule ≠ .mailbox)
    | none => false
  | .deadlineStart seconds => decide (1 ≤ seconds) && decide (seconds ≤ 3600)
  | .freezeStore | .lockStore | .deadlineStop | .reboot => true

/-- A sequence entry is admitted: VERIFIED does not carry REBOOT (R86). -/
def seqEntryOk (m : Manifest) (e : SeqEntry) : Bool :=
  e.actions.all (actionOk m)
    && !(decide (e.trigger = .verified) && decide (Action.reboot ∈ e.actions))

/-- A watch trigger's line is an INPUT line or L5 (R86). -/
def watchTriggerOk (m : Manifest) : WatchTrigger → Bool
  | .line .l5 _ => true
  | .line line _ => decide (configuredRole m.lines line = some .input)
  | .threshold _ | .lockout => true

/-- The structure step on a parsed manifest (R86): every condition of its list. -/
def structureOk (f : Fuses) (m : Manifest) : Bool :=
  classesOk f m.classes
    && regionsOk f m.kind m.records
    && areasOk f m.records
    && decide (m.params.digests.length = m.records.countP (·.measured))
    && m.sequence.all (seqEntryOk m)
    && m.watch.all fun e => e.actions.all (actionOk m) && watchTriggerOk m e.trigger

/-! ## The manifest check (R81) -/

/-- What a manifest is judged for (section 4.5): its address, the expected kind, and the slot. -/
structure CheckInput where
  address : Nat
  kind : ManifestKind
  slot : RunSlot
deriving DecidableEq, Repr

/-- The outcome of a check: a pass with the manifest and its checked copy; or a fail with its reason, the record
index for DIGEST (0xFF otherwise) and the security version if the rollback step was reached (R81, R147). -/
inductive CheckResult where
  | pass (manifest : Manifest) (copy : Bytes)
  | fail (reason : VerifyReason) (region : Byte) (securityVersion : Nat)
deriving DecidableEq, Repr

/-- A fail with no record and no security version. -/
def CheckResult.failed (reason : VerifyReason) : CheckResult :=
  .fail reason noRegion 0

/-- The manifest magic (section 11.1). -/
def manifestMagic : Bytes := [0x45, 0x4A, 0x4D, 0x46]

/-- A manifest kind's code (section 11.5). -/
def ManifestKind.code : ManifestKind → Byte
  | .slot => 1 | .recovery => 2

/-- Step 1, on the header's bytes (R82, R191). -/
def headerOk (kind : ManifestKind) (bs : Bytes) : Bool :=
  decide (slice bs 0 4 = manifestMagic) && decide (numAt bs 4 2 = 1)
    && decide (byteAt bs 6 = kind.code)
    && decide (152 ≤ declaredLength bs) && decide (declaredLength bs ≤ Config.manifestArea)

/-- A root-key slot by key index. -/
def Fuses.rootKey (f : Fuses) (index : Byte) : Option RootKey :=
  if index = 0 then some f.key0 else if index = 1 then some f.key1 else none

/-- The embedded public key's coordinates (section 11.1). -/
def keyX (bs : Bytes) : Nat := ofBe (slice bs 24 32)
def keyY (bs : Bytes) : Nat := ofBe (slice bs 56 32)

/-- Step 2 (R83): the reason it fails with, if it fails. -/
def keyFailure (f : Fuses) (bs : Bytes) : Option VerifyReason :=
  match f.rootKey (byteAt bs 7) with
  | none => some .header
  | some key =>
    if key.revoked then some .keyRevoked
    else if sha256 (slice bs 24 64) = key.hash ∧ onCurve (keyX bs) (keyY bs) then none
    else some .signature

/-- Step 3 (R84): the last 64 bytes sign every byte before them. -/
def signatureOk (bs : Bytes) : Bool :=
  let n := bs.length - 64
  ecdsaVerify (keyX bs) (keyY bs) (sha256 (bs.take n)) (ofBe (slice bs n 32))
    (ofBe (slice bs (n + 32) 32))

/-- A measured record's physical start for the slot judged (R87). -/
def RegionRecord.contentStart (r : RegionRecord) (slot : RunSlot) : Nat :=
  match r.view, slot with
  | .running, .a => r.pa
  | .running, .b => r.pb
  | _, _ => r.base

/-- Step 6 (R87): the index of the first measured record, from index `index` on, whose content's hash differs from
its digest. -/
def digestFailure (f : Fuses) (content : FlashImage) (slot : RunSlot) :
    Nat → List RegionRecord → List Bytes → Option Nat
  | _, [], _ => none
  | index, r :: rest, digests =>
    if r.measured then
      match digests with
      | [] => some index
      | d :: ds =>
        if sha256 (f.engineRead content (r.contentStart slot) r.size) = d then
          digestFailure f content slot (index + 1) rest ds
        else some index
    else digestFailure f content slot (index + 1) rest digests

/-- Steps 4 to 6, on the checked copy (R85 to R87). -/
def checkTables (f : Fuses) (input : CheckInput) (content : FlashImage) (bs : Bytes) : CheckResult :=
  let version := numAt bs 10 2
  let reached := if input.kind = .slot then version else 0
  if input.kind = .slot ∧ version < epochValue f.epochBits then .fail .rollback noRegion version
  else
    match parseManifest input.kind bs with
    | none => .fail .structure noRegion reached
    | some m =>
      if structureOk f m then
        match digestFailure f content input.slot 0 m.records m.params.digests with
        | none => .pass m bs
        | some index => .fail .digest (byteOf index) reached
      else .fail .structure noRegion reached

/-- The manifest check (R81): six steps in order, the first that fails giving the reason. -/
def manifestCheck (f : Fuses) (input : CheckInput) (copy content : FlashImage) : CheckResult :=
  let header := f.engineRead copy input.address 10
  if headerOk input.kind header then
    let bs := f.engineRead copy input.address (declaredLength header)
    match keyFailure f bs with
    | some reason => .failed reason
    | none =>
      if signatureOk bs then checkTables f input content bs else .failed .signature
  else .failed .header

end Sys2Proof.Machine
end

