-- ==== Sys2Proof/Machine/Boot.lean ====
section
/-! DEFINITION. The Boot Selector (chapter 4): supply and RESET_N, REBOOT, selection, the start-up manifest check's
end, the tables made live, the start-up entries and the completion of a start; and the sensed lines whose first L5
level selection waits for (R75, R106). -/

namespace Sys2Proof.Machine

/-! ## HALT (R91) -/

/-- Start-up ends with verdict HALT (R91). -/
def State.halt (s : State) : State :=
  { s with
    boot := { s.boot with phase := .halted, outcome := .halted }
    port := { s.port with openTx := .none }
    scratch := []
    job := .idle }

/-! ## Selection (section 4.4) -/

/-- What a selection step checks (section 4.4). -/
def State.checkInput (s : State) : SelectStep → CheckInput
  | .pending slot => { address := s.fuses.manifestAddress slot, kind := .slot, slot := slot.run }
  | .committed =>
    { address := s.fuses.manifestAddress s.store.slots.committed, kind := .slot
      slot := s.store.slots.committed.run }
  | .other =>
    { address := s.fuses.manifestAddress s.store.slots.committed.other, kind := .slot
      slot := s.store.slots.committed.other.run }
  | .recovery => { address := s.fuses.mr, kind := .recovery, slot := .r }

/-- A selection step's manifest check begins: the engine reads the manifest's header (R81, R18). -/
def State.beginCheck (s : State) (step : SelectStep) : State :=
  (s.setPort { s.port with openTx := s.fuses.engineReadTx (s.checkInput step).address }).setJob
    (.selectCheck step)

/-- The other step, skipped when the other slot is rejected (R78). -/
def State.enterOther (s : State) : State :=
  if s.store.slots.committed.other ∈ s.boot.rejected then s.beginCheck .recovery
  else s.beginCheck .other

/-- The committed step, skipped when the committed slot is rejected (R78). -/
def State.enterCommitted (s : State) : State :=
  if s.store.slots.committed ∈ s.boot.rejected then s.enterOther else s.beginCheck .committed

/-- Selection begins with the sample (R75 to R78). -/
def State.beginSelection (s : State) (asserted : Bool) : State :=
  if asserted then s.beginCheck .recovery
  else
    match s.store.slots.pending with
    | some slot =>
      if s.store.slots.trials = 0 then s.beginWrite (.pendingCleared slot true)
      else s.beginWrite (.trialDecrement slot)
    | none => s.enterCommitted

/-- Selection begins when the fuse check has passed, the ready wait has ended and L5 has been sampled (R70 item 7). -/
def State.trySelect (s : State) : State :=
  match s.boot.sample with
  | some asserted =>
    if s.boot.phase = .selecting ∧ s.job = .idle ∧ s.write = none then s.beginSelection asserted else s
  | none => s

/-! ## Supply, RESET_N and REBOOT (R68, R71) -/

/-- SUPPLY_RISE: a COLD_POWER start begins, or waits for the release of RESET_N, with L0, L1 to L4, FCS_N and the host
as R68 gives them while RESET_N is held. -/
def execSupplyRise (s : State) : Result :=
  if s.pins.supply then .fault .levelHeld
  else if s.pins.resetAsserted then
    let t := s.setPins { s.pins with supply := true, coldPowerDue := true }
    .next (((t.setLines t.linesHeld).setHost t.hostAbandoned).setPort { t.port with openTx := .none })
  else .next ((s.setPins { s.pins with supply := true, coldPowerDue := false }).beginStart .coldPower)

/-- SUPPLY_FALL: whatever the part was doing ends and every volatile state is lost (R141, R159); the lost state is
written as the values of R70 (assumption 15). -/
def execSupplyFall (s : State) : Result :=
  if s.pins.supply then
    .next ((s.setPins { s.pins with supply := false, coldPowerDue := false }).volatileAtStart .coldPower)
  else .fault .levelHeld

/-- What an assertion of RESET_N does while the supply is up: L0 asserted, L1 to L4 at their fuse levels, FCS_N
released, the host's transaction abandoned, and every operation and timer of the part ended (R68, assumption 14). -/
def State.heldByReset (s : State) : State :=
  { s with
    lines := s.linesHeld
    port := { s.port with openTx := .none }
    host := s.hostAbandoned
    schedule := { s.schedule with deadline := .stopped }
    job := .idle
    write := none }

/-- RESET_N_ASSERT (R68). -/
def execResetNAssert (s : State) : Result :=
  if s.pins.resetAsserted then .fault .levelHeld
  else
    let t := s.setPins { s.pins with resetAsserted := true }
    if s.pins.supply then .next t.heldByReset else .next t

/-- RESET_N_RELEASE: with the supply up a COLD_PIN start begins, or the COLD_POWER start that was due (R68). -/
def execResetNRelease (s : State) : Result :=
  if s.pins.resetAsserted then
    let t := s.setPins { s.pins with resetAsserted := false, coldPowerDue := false }
    if s.pins.supply then .next (t.beginStart (if s.pins.coldPowerDue then .coldPower else .coldPin))
    else .next t
  else .fault .levelHeld

/-- REBOOT: a warm start with cause WARM_REQUEST begins and ends the request (R71). -/
def execReboot (s : State) : Result :=
  takeRequest .reboot s fun _ t => .next (t.beginStart .warmRequest)

/-! ## The end of a start-up manifest check (R76 to R81, R88) -/

/-- The verdict of a step whose manifest passes (section 4.4). -/
def SelectStep.verdict : SelectStep → Verdict
  | .pending _ => .trial
  | .committed => .normal
  | .other => .fallback
  | .recovery => .recovery

/-- What selection sets when a step's manifest passes (R69, R88). -/
def State.bootedBy (s : State) (step : SelectStep) (params : Params) : Booted :=
  let committed := s.store.slots.committed
  { verdict := step.verdict
    running := (s.checkInput step).slot
    target := match step with
      | .pending slot => slot.other
      | .committed => committed.other
      | .other => committed
      | .recovery => committed.other
    params := params }

/-- The passing manifest's tables are made live together (R88). -/
def State.tablesLive (s : State) (step : SelectStep) (m : Manifest) (copy : Bytes) : State :=
  { s with
    classes := m.classes
    regions := { defaultRule := m.defaultRule, records := m.records }
    port := { s.port with openTx := .none, readyPoll := pollOf m.classes }
    lines := s.lines.load m.lines
    log := { s.log with thresholds := m.thresholds }
    schedule := { s.schedule with sequence := m.sequence, cursor := 0, watch := m.watch }
    boot := { s.boot with phase := .completing, outcome := .booted (s.bootedBy step m.params) }
    scratch := copy
    job := .startUpEntries }

/-- A slot joins the rejected slots (R76, R78). -/
def State.reject (s : State) (slot : Slot) : State :=
  s.setBoot { s.boot with rejected := s.boot.rejected.insert slot }

/-- Where selection goes after a step's check has failed and been recorded (R76, R78, R79). -/
def State.afterRejection (s : State) : SelectStep → State
  | .pending slot => ((s.reject slot).setJob .idle).beginWrite (.pendingCleared slot false)
  | .committed => (s.reject s.store.slots.committed).enterOther
  | .other => (s.reject s.store.slots.committed.other).beginCheck .recovery
  | .recovery => s.halt

/-- A failed selection check is recorded: MANIFEST_REJECTED, flag and incident (R80). -/
def recordRejection (address : Nat) (reason : VerifyReason) (region : Byte) (s : State) : Flow :=
  logIncident (plainIncident .manifestRejected region reason.code address)
    ((s.raiseFlag .manifestRejected).setPort { s.port with openTx := .none })

/-- MANIFEST_CHECK_COMPLETE: a start-up manifest check ends (R81). -/
def execManifestCheckComplete (copy content : FlashImage) (s : State) : Result :=
  if s.alive then
    match s.boot.phase, s.job with
    | .selecting, .selectCheck step =>
      let input := s.checkInput step
      match manifestCheck s.fuses input copy content with
      | .pass m bs => .next (s.tablesLive step m bs)
      | .fail reason region _ =>
        ((recordRejection input.address reason region s).andThen fun t => .on (t.afterRejection step)).result
    | _, _ => .fault .notInProgress
  else .next s

/-! ## Completing a start (R89, R90) -/

/-- The end of start-up: VERIFIED is raised and its actions run, the port is handed back, L0 is released and the
phase becomes RUNNING (R90). -/
def finishStart (s : State) : Flow :=
  (offerSequence .verified (s.setJob .idle)).andThen fun t =>
    let u := t.returnPort
    .on { u with
      lines := { u.lines with l0Asserted := false }
      boot := { u.boot with phase := .running }
      scratch := [] }

/-- The label and value of a start-up entry: CLOSED and not folded (R111 to R113). -/
def startUpEntry (label value : Bytes) (count : Nat) : MeasEntry :=
  { tag := .closed, label := label, value := value, count := BitVec.ofNat 16 count, folded := false }

/-- One extension of a value (R114). -/
def extendValue (value input : Bytes) : Bytes :=
  sha256 (value ++ input)

/-- The 12-byte input of entry 0 (R111). -/
def State.partInput (s : State) (b : Booted) : Bytes :=
  s.fuses.serial ++ [byteOf s.epoch, byteOf b.params.keyIndex, b.verdict.code, b.running.code]

/-- Entries 0 to 2 (R111 to R113). -/
def State.startUpStack (s : State) (b : Booted) : Stack :=
  let digests := b.params.digests
  { entries := ((Stack.start.entries.set 0
        (startUpEntry [0x50, 0x41, 0x52, 0x54] (sha256 (s.partInput b)) 0)).set 1
        (startUpEntry [0x4D, 0x41, 0x4E, 0x49] (sha256 s.scratch) 0)).set 2
        (startUpEntry [0x49, 0x4D, 0x47, 0x53] (digests.foldl extendValue (List.replicate 32 0))
          digests.length)
    top := 3 }

/-- The verdict's flag (R89 item 2). -/
def Verdict.flag : Verdict → Option Flag
  | .normal => none
  | .trial => some .trialBoot
  | .fallback => some .fallbackBoot
  | .recovery => some .recoveryBoot

/-- The verdict's flag is set (R89 item 2). -/
def State.raiseVerdictFlag (s : State) (v : Verdict) : State :=
  match v.flag with
  | some f => s.raiseFlag f
  | none => s

/-- Entries 0 to 2, the start epoch and the verdict's flag (R89, R111 to R113, R129). -/
def State.withEntries (s : State) (b : Booted) : State :=
  ((s.setStack (s.startUpStack b)).setQuote { s.quote with startEpoch := some s.epoch }).raiseVerdictFlag
    b.verdict

/-- START_UP_ENTRIES: entries 0 to 2 are written and the verdict's flag is set; then a wipe marker's erasing begins,
or the start is completed (R89, R90). -/
def execStartUpEntries (s : State) : Result :=
  if s.alive then
    match s.boot.phase, s.job, s.booted with
    | .completing, .startUpEntries, some b =>
      let t := s.withEntries b
      if t.wipePending then .next (t.setJob .granuleWait).engineTurn else (finishStart t).result
    | _, _, _ => .fault .notInProgress
  else .next s

/-! ## Sensed lines (R75, R106, R107) -/

/-- Whether one of L1 to L4 is sensed (R104). -/
def CtlLine.sensed (c : CtlLine) : Bool :=
  decide (c.role = some .input)

/-- One of L1 to L4 after its pin has changed: a sensed line's timer follows R106, any other line's pin level alone
changes, to be held at the load (assumption 27). -/
def CtlLine.pinChanged (c : CtlLine) (alive high : Bool) : CtlLine :=
  if alive && c.sensed then { c with sense := c.sense.pinChanged c.polarity high }
  else { c with sense := { c.sense with pinHigh := high } }

/-- LINE_PIN_CHANGE (R106). L5 is sensed at all times, while RESET_N is held too; without the supply, and on a line
that is not sensed, only the pin level changes. -/
def execLinePinChange (line : Line) (high : Bool) (s : State) : Result :=
  match line, lineIndex line with
  | .l0, _ => .fault .notSensed
  | _, some i =>
    let c := s.lines.ctl.get i
    if c.sense.pinHigh = high then .next s else .next (s.setCtl i (c.pinChanged s.alive high))
  | _, none =>
    let x := s.lines.l5
    if x.pinHigh = high then .next s
    else if s.pins.supply then .next (s.setL5 (x.pinChanged l5Polarity high))
    else .next (s.setL5 { x with pinHigh := high })

/-- L5's first settled level in SELECTING is the recovery-request sample (R75, R107). -/
def State.sampleL5 (s : State) (asserted : Bool) : State :=
  if s.boot.phase = .selecting then
    let t := s.setBoot { s.boot with sample := some asserted }
    (if asserted then t.raiseFlag .recoveryRequested else t).trySelect
  else s

/-- What a settled level brings about: a LINE trigger, unless the line was not yet settled (R106). -/
def settledChange (line : Line) (before : Option Bool) (level : Bool) (s : State) : Flow :=
  match before, line with
  | some _, _ => fireWatch (.line line level) s
  | none, .l5 => .on (s.sampleL5 level)
  | none, _ => .on s

/-- What is left of LINE_SETTLING_EXPIRY while the part does not run: L5 is sensed at all times (R106), so with
RESET_N held it still settles; what its settled level would bring about is ended with everything else (R68). -/
def settleWhileHeld (line : Line) (s : State) : State :=
  match line with
  | .l5 =>
    if s.pins.supply && s.lines.l5.timer then s.setL5 (s.lines.l5.settle l5Polarity) else s
  | .l0 | .l1 | .l2 | .l3 | .l4 => s

/-- LINE_SETTLING_EXPIRY: a sensed line's timer runs out (R106). -/
def execLineSettlingExpiry (line : Line) (s : State) : Result :=
  if s.alive then
    match line, lineIndex line with
    | .l0, _ => .fault .notSensed
    | _, some i =>
      let c := s.lines.ctl.get i
      if c.sensed && c.sense.timer then
        (settledChange line c.sense.settled (c.polarity.level c.sense.pinHigh)
          (s.setCtl i { c with sense := c.sense.settle c.polarity })).result
      else .fault .notSensed
    | _, none =>
      let x := s.lines.l5
      if x.timer then
        (settledChange .l5 x.settled (l5Polarity.level x.pinHigh) (s.setL5 (x.settle l5Polarity))).result
      else .fault .notSensed
  else .next (settleWhileHeld line s)

end Sys2Proof.Machine
end

