-- ==== Sys2Proof/Machine/Stack.lean ====
section
/-! DEFINITION. The Measurement Stack's requests (section 6.3). -/

namespace Sys2Proof.Machine

/-- The top entry with its index, if it is OPEN (R109). -/
def Stack.openTop (k : Stack) : Option (Nat × MeasEntry) :=
  match k.top with
  | 0 => none
  | i + 1 =>
    match k.entries[i]? with
    | some e => if e.tag = .opened then some (i, e) else none
    | none => none

/-- Writes the entry at an index. -/
def Stack.write (k : Stack) (index : Nat) (e : MeasEntry) : Stack :=
  { k with entries := k.entries.setIfInBounds index e }

/-- A refusal of the stack: the flag is set and STACK_REFUSED is logged before the response is placed (R121, R125). -/
def refuseStack (status : Status) (detail : Byte) (flag : Flag) (s : State) : Result :=
  ((logIncident (plainIncident .stackRefused noRegion detail 0) (s.raiseFlag flag)).andThen fun t =>
    .on (t.respond status [])).result

/-- A refusal for want of an OPEN top entry (R118, R119). -/
def refuseNoOpenStage (s : State) : Result :=
  refuseStack .refusedState Detail.noOpenStage .stageOrder s

/-- A newly opened entry (R115). -/
def MeasEntry.newlyOpened (label : Bytes) : MeasEntry :=
  { MeasEntry.start with tag := .opened, label := label }

/-- Opens the entry at the top index (R115). -/
def Stack.push (k : Stack) (label : Bytes) : Stack :=
  { k.write k.top (.newlyOpened label) with top := k.top + 1 }

/-- Folds a stage into entry 7 (R116). -/
def Stack.fold (k : Stack) (label : Bytes) : Stack :=
  k.write 7 { k.entries.get 7 with tag := .opened, label := label, folded := true }

/-- OPEN_STAGE (R115 to R117). -/
def execOpenStage (s : State) : Result :=
  takeRequest .openStage s fun label t =>
    withBooted t fun b =>
      if t.stack.openTop.isSome then refuseStack .refusedState Detail.stageOpen .stageOrder t
      else if t.stack.top < 8 then
        .next ((t.setStack (t.stack.push label)).respond .ok [byteOf t.stack.top, byteOfBool false])
      else
        match b.params.overflow with
        | .fold =>
          .next (((t.setStack (t.stack.fold label)).raiseFlag .stackFolded).respond .ok
            [byteOf 7, byteOfBool true])
        | .refuse => refuseStack .full Detail.stackFull .stackFolded t

/-- EXTEND: with an OPEN top entry the hash begins (R118). -/
def execExtend (s : State) : Result :=
  takeRequest .extend s fun input t =>
    if t.stack.openTop.isSome then .next (t.setJob (.extendHash input)) else refuseNoOpenStage t

/-- An entry extended with an input (R114). -/
def MeasEntry.extended (e : MeasEntry) (input : Bytes) : MeasEntry :=
  { e with value := extendValue e.value input, count := satInc e.count }

/-- EXTEND_HASH_COMPLETE: the hash is computed and the top entry extended (R114, R118). -/
def execExtendHashComplete (s : State) : Result :=
  if s.alive then
    match s.job, s.stack.openTop with
    | .extendHash input, some (i, e) =>
      let e' := e.extended input
      .next (((s.setJob .idle).setStack (s.stack.write i e')).respond .ok
        ([byteOf i] ++ le 2 e'.count.toNat ++ e'.value))
    | _, _ => .fault .notInProgress
  else .next s

/-- CLOSE_STAGE: the OPEN top entry becomes CLOSED and STAGE_CLOSED is raised with its label (R119). -/
def execCloseStage (s : State) : Result :=
  takeRequest .closeStage s fun _ t =>
    match t.stack.openTop with
    | some (i, e) =>
      let e' := { e with tag := .closed }
      ((offerSequence (.stageClosed e.label) (t.setStack (t.stack.write i e'))).andThen fun u =>
        .on (u.respond .ok (e'.bytes i))).result
    | none => refuseNoOpenStage t

/-- The listing of the non-EMPTY entries whose index passes a test, in ascending index (R120, R133). -/
def Stack.listing (k : Stack) (selected : Nat → Bool) : List Bytes :=
  (List.range (min k.top 8)).filterMap fun i =>
    if selected i then k.entries[i]?.map fun e => e.bytes i else none

/-- READ_MEASUREMENTS (R120). -/
def execReadMeasurements (s : State) : Result :=
  takeRequest .readMeasurements s fun _ t =>
    .next (t.respond .ok (byteOf t.stack.top :: (t.stack.listing fun _ => true).flatten))

/-- Whether some entry is CLOSED with a label and a value (R122). -/
def Stack.answers (k : Stack) (label value : Bytes) : Bool :=
  k.entries.any fun e => decide (e.tag = .closed) && decide (e.label = label) && decide (e.value = value)

end Sys2Proof.Machine
end

