-- ==== Sys2Proof/Machine/Quote.lean ====
section
/-! DEFINITION. The Quote Unit (chapter 7): the identity key, GET_IDENTITY and QUOTE. -/

namespace Sys2Proof.Machine

/-- The 14 ASCII bytes "EJ identity v1" (R127). -/
def identityLabel : Bytes :=
  [0x45, 0x4A, 0x20, 0x69, 0x64, 0x65, 0x6E, 0x74, 0x69, 0x74, 0x79, 0x20, 0x76, 0x31]

/-- The identity key d (R127). -/
def Fuses.identityKey (f : Fuses) : Nat :=
  ofBe (hmac f.uds identityLabel) % (p256Order - 1) + 1

/-- The public key Q, x then y (R127). -/
def Fuses.identityPoint (f : Fuses) : Bytes :=
  match publicPoint f.identityKey with
  | some (x, y) => be 32 x ++ be 32 y
  | none => List.replicate 64 0

/-- d and Q, derived afresh from the UDS (R128). -/
def Fuses.identity (f : Fuses) : IdentityKey :=
  { d := f.identityKey, q := f.identityPoint }

/-- GET_IDENTITY: d and Q are derived and held for this execution (R128, R130). -/
def execGetIdentity (s : State) : Result :=
  takeRequest .getIdentity s fun _ t => .next (t.setJob (.deriveIdentity t.fuses.identity))

/-- The GET_IDENTITY body with public key `q` (R130, section 11.4). -/
def State.identityBody (s : State) (b : Booted) (q : Bytes) : Bytes :=
  s.fuses.serial ++ q ++ [byteOf b.params.keyIndex, byteOf s.epoch]
    ++ le 4 b.params.imageVersion

/-- KEY_DERIVATION_COMPLETE: the GET_IDENTITY response is placed, and the key is cleared (R128, R130). -/
def execKeyDerivationComplete (s : State) : Result :=
  if s.alive then
    match s.job with
    | .deriveIdentity key =>
      withBooted s fun b => .next ((s.setJob .idle).respond .ok (s.identityBody b key.q))
    | _ => .fault .notInProgress
  else .next s

/-- The quote body (R132, R133, section 11.4). `startEpoch` is set in every start that has a window (R129). -/
def State.quoteBody (s : State) (b : Booted) (startEpoch : Nat) (nonce : Bytes) (mask : Byte) : Bytes :=
  let entries := s.stack.listing fun i => mask.getLsbD i
  nonce ++ s.fuses.serial ++ le 4 s.store.bootCount.toNat ++ le 4 s.quote.counter.toNat
    ++ [byteOf s.epoch, byteOf startEpoch, byteOf b.params.keyIndex, b.verdict.code, b.running.code]
    ++ le 4 b.params.imageVersion ++ le 2 s.flags.toNat
    ++ [s.cred.state.code, s.storeAttributes, s.boot.cause.code]
    ++ le 2 s.store.revertCount.toNat ++ le 4 s.store.failedTotal.toNat
    ++ [mask, byteOf entries.length] ++ entries.flatten

/-- QUOTE: the counter rises and the body is assembled in one step; then signing begins, with d and Q derived and held
for this execution (R128, R131). -/
def execQuote (s : State) : Result :=
  takeRequest .quote s fun body t =>
    withBooted t fun b =>
      match t.quote.startEpoch with
      | none => .fault .noManifest
      | some epoch =>
        let u := t.setQuote { t.quote with counter := satInc t.quote.counter }
        .next (u.setJob (.signQuote u.fuses.identity
          (u.quoteBody b epoch (slice body 0 32) (byteAt body 32))))

/-- The signature by d over a quote body: r, then s (R134). -/
def quoteSignature (d : Nat) (body : Bytes) : Bytes :=
  let sig := ecdsaSign d (sha256 body)
  be 32 sig.1 ++ be 32 sig.2

/-- QUOTE_SIGNED: the quote response is placed, and the key is cleared (R128, R134). -/
def execQuoteSigned (s : State) : Result :=
  if s.alive then
    match s.job with
    | .signQuote key body =>
      .next ((s.setJob .idle).respond .ok (body ++ quoteSignature key.d body))
    | _ => .fault .notInProgress
  else .next s

end Sys2Proof.Machine
end

