-- ==== Sys2Proof/Machine/Update.lean ====
section
/-! DEFINITION. The Update Controller (chapter 8): the update session, staging, and CONFIRM_BOOT with the epoch and
the root-key revocation. -/

namespace Sys2Proof.Machine

/-- Replaces the slot state. -/
def State.setSlots (s : State) (v : SlotState) : State :=
  s.setStore { s.store with slots := v }

/-! ## The session (R144, R145, R150) -/

/-- OPEN_UPDATE: the first line of R144's table that applies. -/
def execOpenUpdate (s : State) : Result :=
  takeRequest .openUpdate s fun _ t =>
    withBooted t fun b =>
      if b.verdict = .trial ∨ t.session ≠ .closed ∨ t.store.slots.pending.isSome then
        .next (t.respond .refusedState [])
      else .next ((t.setSession .opened).respond .ok [b.target.code, Session.opened.code])

/-- STAGE_UPDATE: with the session OPEN, it becomes VERIFYING, the port is taken and the ready wait begins (R145). -/
def execStageUpdate (s : State) : Result :=
  takeRequest .stageUpdate s fun _ t =>
    if t.session = .opened then .next (((t.setSession .verifying).takePort.setJob .stageWait).engineTurn)
    else .next (t.respond .refusedState [])

/-- The staging check's inputs (R145 item 4). -/
def State.stageInput (s : State) (b : Booted) : CheckInput :=
  { address := s.fuses.manifestAddress b.target, kind := .slot, slot := b.target.run }

/-- A failed staging check's response status (R147). -/
def VerifyReason.stageStatus : VerifyReason → Status
  | .rollback => .rollback
  | .header | .signature | .keyRevoked | .structure | .digest => .verifyFailed

/-- A failed staging check: the session returns to OPEN, STAGE_FAILED is logged, the port is handed back and the
request is answered (R147). -/
def stageFailed (address : Nat) (reason : VerifyReason) (region : Byte) (version : Nat) (s : State) : Flow :=
  (logIncident (plainIncident .stageFailed region reason.code address) (s.setSession .opened)).andThen
    fun t => .on (t.returnPort.respond reason.stageStatus
      ([reason.code, region] ++ le 2 version ++ [byteOf t.epoch]))

/-- STAGE_CHECK_COMPLETE: the staging check ends (R146, R147). A pass begins the pending-set write. -/
def execStageCheckComplete (copy content : FlashImage) (s : State) : Result :=
  if s.alive then
    match s.job with
    | .stageCheck =>
      withBooted s fun b =>
        let input := s.stageInput b
        let t := (s.setJob .idle).setPort { s.port with openTx := .none }
        match manifestCheck s.fuses input copy content with
        | .pass m _ =>
          .next (t.beginWrite (.pendingSet
            { slot := b.target, keyIndex := m.params.keyIndex
              securityVersion := m.params.securityVersion, imageVersion := m.params.imageVersion
              epoch := s.epoch }))
        | .fail reason region version => (stageFailed input.address reason region version t).result
    | _ => .fault .notInProgress
  else .next s

/-- The pending-set write takes effect (R146). -/
def pendingSetEffect (g : Staged) (s : State) : State :=
  let slots := { s.store.slots with pending := some g.slot, trials := 3 }
  ((s.setSlots slots).setSession .staged).returnPort.respond .ok
    ([g.slot.code, byteOf 3, byteOf g.keyIndex] ++ le 2 g.securityVersion ++ le 4 g.imageVersion
      ++ [byteOf g.epoch])

/-- An ABORT_UPDATE's OK response (R150). -/
def State.answerAbort (s : State) : State :=
  s.respond .ok [s.session.code, slotCode s.store.slots.pending]

/-- ABORT_UPDATE (R150). -/
def execAbortUpdate (s : State) : Result :=
  takeRequest .abortUpdate s fun _ t =>
    match t.session with
    | .closed => .next t.answerAbort
    | .opened => .next (t.setSession .closed).answerAbort
    | .staged => .next (t.beginWrite .abortPending)
    | .verifying => .fault .notDispatched

/-- The slot state with no pending slot (R73, pending cleared). -/
def SlotState.cleared (v : SlotState) : SlotState :=
  { v with pending := none, trials := 0 }

/-- The pending-cleared write of an ABORT_UPDATE takes effect (R150). -/
def abortEffect (s : State) : State :=
  ((s.setSlots s.store.slots.cleared).setSession .closed).answerAbort

/-! ## CONFIRM_BOOT (R152 to R158) -/

/-- A running slot as a slot. -/
def RunSlot.slot : RunSlot → Option Slot
  | .a => some .a
  | .b => some .b
  | .r => none

/-- The slot state that the verdict's write gives; the present one where no write is called for (R157). -/
def State.confirmedSlots (s : State) (b : Booted) : SlotState :=
  match b.verdict, b.running.slot with
  | .trial, some slot => { committed := slot, pending := none, trials := 0 }
  | .fallback, some slot => { s.store.slots with committed := slot }
  | _, _ => s.store.slots

/-- min(S, 64) (R153). -/
def Params.epochCalled (p : Params) : Nat :=
  min p.securityVersion 64

/-- The revoked bit of the root-key slot that did not sign the running manifest (R155). -/
def Fuses.otherRevoked (f : Fuses) (p : Params) : Bool :=
  if p.keyIndex = 0 then f.key1.revoked else f.key0.revoked

/-- That bit blown (R155). -/
def Fuses.revokeOther (f : Fuses) (p : Params) : Fuses :=
  if p.keyIndex = 0 then { f with key1 := { f.key1 with revoked := true } }
  else { f with key0 := { f.key0 with revoked := true } }

/-- The steps byte (section 11.4). -/
def ConfirmSteps.byte (c : ConfirmSteps) : Byte :=
  byteOfBool c.slotState ||| byteOfBool c.epoch <<< 1 ||| byteOfBool c.revocation <<< 2

/-- A CONFIRM_BOOT's OK body (R158, section 11.4). -/
def State.confirmBody (s : State) (c : ConfirmSteps) : Bytes :=
  [s.store.slots.committed.code, slotCode s.store.slots.pending, byteOf s.store.slots.trials,
   byteOf s.epoch, s.fuses.revokedBits, c.byte]

/-- After the confirm steps: the deadline is stopped, CONFIRMED is raised, and the request completes (R158). -/
def finishConfirm (c : ConfirmSteps) (s : State) : Flow :=
  (offerSequence .confirmed (s.setDeadline .stopped)).andThen fun t =>
    .on (t.respond .ok (t.confirmBody c))

/-- The revocation step: made if called for (R155, R156). -/
def confirmRevocation (b : Booted) (c : ConfirmSteps) (s : State) : Flow :=
  if b.params.revokeOther && !s.fuses.otherRevoked b.params then .on (s.beginWrite (.confirmRevoke c))
  else finishConfirm c s

/-- The epoch step: made if called for (R153, R156). -/
def confirmEpoch (b : Booted) (c : ConfirmSteps) (s : State) : Flow :=
  if s.epoch < b.params.epochCalled then .on (s.beginWrite (.confirmEpoch c))
  else confirmRevocation b c s

/-- The slot-state step: made if called for (R156, R157). -/
def confirmSlots (b : Booted) (s : State) : Flow :=
  let c : ConfirmSteps := { slotState := false, epoch := false, revocation := false }
  if s.confirmedSlots b ≠ s.store.slots then .on (s.beginWrite (.confirmSlot (s.confirmedSlots b)))
  else confirmEpoch b c s

/-- CONFIRM_BOOT (R156): refused in RECOVERY, otherwise the confirm steps in order. -/
def execConfirmBoot (s : State) : Result :=
  takeRequest .confirmBoot s fun _ t =>
    withBooted t fun b =>
      if b.verdict = .recovery then .next (t.respond .refusedState [])
      else (confirmSlots b t).result

/-- The slot-state write takes effect (R157). -/
def confirmSlotEffect (v : SlotState) (b : Booted) (s : State) : Flow :=
  confirmEpoch b { slotState := true, epoch := false, revocation := false } (s.setSlots v)

/-- The epoch write takes effect: bits epoch to min(S, 64) - 1 are blown together (R153). -/
def confirmEpochEffect (c : ConfirmSteps) (b : Booted) (s : State) : Flow :=
  confirmRevocation b { c with epoch := true }
    (s.setFuses { s.fuses with epochBits := s.fuses.epochBits ||| thermometer b.params.epochCalled })

/-- The revocation write takes effect (R155). -/
def confirmRevokeEffect (c : ConfirmSteps) (b : Booted) (s : State) : Flow :=
  finishConfirm { c with revocation := true } (s.setFuses (s.fuses.revokeOther b.params))

end Sys2Proof.Machine
end

