-- ==== Sys2Proof/Machine/Store.lean ====
section
/-! DEFINITION. The Credential Store (chapter 9): owner requests, attempts and lockout, the wipe's transaction,
credential records and release policies. -/

namespace Sys2Proof.Machine

/-! ## Answers -/

/-- The store state and attempts used after a request (section 11.4). -/
def State.attemptsBody (s : State) : Bytes :=
  [s.cred.state.code, byteOf s.cred.attempts]

/-- The barring of the six requests of R161 while FROZEN is set (R164 check 2). -/
def unlessFrozen (s : State) (go : Result) : Result :=
  if s.cred.frozen then .next (s.respond .frozen []) else go

/-- The state checks of SET_RECOVERY_LEVEL, WIPE, PUT_CREDENTIAL and DELETE_CREDENTIAL (R164 check 3). -/
def whereOwned (s : State) (go : Result) : Result :=
  match s.cred.state with
  | .unlocked => go
  | .unset => if s.wipePending then .next (s.respond .refusedState []) else go
  | .locked => .next (s.respond .denied [])
  | .lockedOut => .next (s.respond .lockedOut [])

/-! ## Verifiers (R162) -/

/-- The 8 ASCII bytes "EJ owner". -/
def ownerLabel : Bytes := [0x45, 0x4A, 0x20, 0x6F, 0x77, 0x6E, 0x65, 0x72]

/-- The 11 ASCII bytes "EJ recovery". -/
def recoveryLabel : Bytes := [0x45, 0x4A, 0x20, 0x72, 0x65, 0x63, 0x6F, 0x76, 0x65, 0x72, 0x79]

/-- The owner verifier of a proof (R162). -/
def Fuses.ownerVerifierOf (f : Fuses) (proof : Bytes) : Bytes :=
  hmac f.uds (ownerLabel ++ proof)

/-- The recovery verifier of a code proof (R162). -/
def Fuses.recoveryVerifierOf (f : Fuses) (proof : Bytes) : Bytes :=
  hmac f.uds (recoveryLabel ++ proof)

/-! ## SET_OWNER (R166) -/

/-- SET_OWNER: in UNSET or UNLOCKED the engine computes the verifier (R166). -/
def execSetOwner (s : State) : Result :=
  takeRequest .setOwner s fun proof t =>
    unlessFrozen t <|
      match t.cred.state with
      | .unlocked => .next (t.setJob (.computeVerifier proof))
      | .unset =>
        if t.wipePending then .next (t.respond .refusedState [])
        else .next (t.setJob (.computeVerifier proof))
      | .locked | .lockedOut => .next (t.respond .denied [])

/-- VERIFIER_COMPUTED: the owner record's write begins (R166). -/
def execVerifierComputed (s : State) : Result :=
  if s.alive then
    match s.job with
    | .computeVerifier proof =>
      .next ((s.setJob .idle).beginWrite (.ownerVerifier (s.fuses.ownerVerifierOf proof)))
    | _ => .fault .notInProgress
  else .next s

/-- An UNSET store whose owner has just been set becomes UNLOCKED; any other stays as it stands (R166). -/
def CredStore.owned (c : CredStore) : CredStore :=
  if c.state = .unset then { c with state := .unlocked } else c

/-- The owner record's write takes effect (R166). -/
def ownerVerifierEffect (verifier : Bytes) (s : State) : State :=
  let t := (s.setStore { s.store with verifier := some verifier }).setCred s.cred.owned
  t.respond .ok [t.cred.state.code]

/-! ## UNLOCK, LOCK, FREEZE, RECOVER, SET_RECOVERY_LEVEL (R167 to R170) -/

/-- UNLOCK: in LOCKED the comparison begins; other states answer at once (R167). -/
def execUnlock (s : State) : Result :=
  takeRequest .unlock s fun proof t =>
    match t.cred.state with
    | .unset => .next (t.respond .refusedState [])
    | .unlocked => .next (t.respond .ok t.attemptsBody)
    | .lockedOut => .next (t.respond .lockedOut [])
    | .locked => .next (t.setJob (.compareOwner proof))

/-- LOCK (R168). -/
def execLock (s : State) : Result :=
  takeRequest .lock s fun _ t =>
    let u := t.setCred t.cred.locked
    .next (u.respond .ok [u.cred.state.code])

/-- FREEZE (R168). -/
def execFreeze (s : State) : Result :=
  takeRequest .freeze s fun _ t =>
    let u := t.setCred t.cred.freeze
    .next (u.respond .ok [u.cred.state.code, u.storeAttributes])

/-- The action of a RECOVER: 1 UNLOCK, 2 WIPE (section 11.3). -/
def recoverAction (b : Byte) : Option Bool :=
  if b = 1 then some false else if b = 2 then some true else none

/-- RECOVER: after its refusal checks the comparison begins (R169). -/
def execRecover (s : State) : Result :=
  takeRequest .recover s fun body t =>
    match recoverAction (byteAt body 32) with
    | none => .next (t.respond .badArgument [])
    | some wipe =>
      unlessFrozen t <|
        if t.cred.state = .lockedOut then .next (t.respond .lockedOut [])
        else if t.wipePending then .next (t.respond .refusedState [])
        else if wipe = false ∧ t.cred.state = .unset then .next (t.respond .refusedState [])
        else if wipe = false ∧ t.store.recoveryLevel = .wipeOnly then .next (t.respond .denied [])
        else .next (t.setJob (.compareRecovery (slice body 0 32) wipe))

/-- The level a SET_RECOVERY_LEVEL body names: 1 FULL, 2 WIPE_ONLY. -/
def recoveryLevelOf (b : Byte) : Option RecoveryLevel :=
  if b = 1 then some .full else if b = 2 then some .wipeOnly else none

/-- SET_RECOVERY_LEVEL (R170). -/
def execSetRecoveryLevel (s : State) : Result :=
  takeRequest .setRecoveryLevel s fun body t =>
    match recoveryLevelOf (byteAt body 0) with
    | none => .next (t.respond .badArgument [])
    | some level =>
      unlessFrozen t <| whereOwned t <|
        if t.store.recoveryLevel = level then .next (t.respond .ok [level.code])
        else .next (t.beginWrite (.recoveryLevel level))

/-- The recovery level's write takes effect (R170). -/
def recoveryLevelEffect (level : RecoveryLevel) (s : State) : State :=
  (s.setStore { s.store with recoveryLevel := level }).respond .ok [level.code]

/-! ## Failed attempts (R165) -/

/-- UNLOCK_FAILED with the attempts used (R165). -/
def unlockFailed (attempts : Nat) : Incident :=
  plainIncident .unlockFailed noRegion (byteOf attempts) 0

/-- At five attempts used the store becomes LOCKED_OUT and UNLOCK_LOCKOUT is set, together; then LOCKOUT is raised
(R165). -/
def lockoutIfFive (s : State) : Flow :=
  if s.cred.attempts = 5 then
    fireWatch .lockout ((s.setCred { s.cred with state := .lockedOut }).raiseFlag .unlockLockout)
  else .on s

/-- The failed-unlock total's write takes effect, and the rest of a failed attempt follows (R165). -/
def failedTotalEffect (s : State) : Flow :=
  let t := (s.setStore { s.store with failedTotal := satInc s.store.failedTotal }).setCred
    { s.cred with attempts := s.cred.attempts + 1 }
  ((logIncident (unlockFailed t.cred.attempts) t).andThen lockoutIfFive).andThen fun u =>
    .on (u.respond .denied u.attemptsBody)

/-- A mismatch: the failed-unlock total's write begins (R165 step 1). -/
def comparisonFailed (s : State) : State :=
  (s.setJob .idle).beginWrite .failedTotal

/-! ## Wipe (R171, R172) -/

/-- The wipe's transaction begins (R171). -/
def State.beginWipe (s : State) : State :=
  (s.setJob .idle).beginWrite (.wipe s.ownerSpans)

/-- WIPE (R171). -/
def execWipe (s : State) : Result :=
  takeRequest .wipe s fun _ t => unlessFrozen t <| whereOwned t <| .next t.beginWipe

/-- The marker a wipe writes over a list of spans, if there is one (R171). -/
def wipeMarkerOver : List Span → Option WipeMarker
  | [] => none
  | first :: rest => some { spans := first :: rest, next := first.base }

/-- The Record Store after a wipe's transaction (R171). -/
def RecordStore.wiped (r : RecordStore) (spans : List Span) : RecordStore :=
  { r with
    creds := Vector.replicate 16 none
    verifier := none
    recoveryLevel := .full
    marker := wipeMarkerOver spans }

/-- The granules of a span (R172). -/
def Span.granules (p : Span) : Nat :=
  (p.limit - p.base) / Config.granule

/-- A WIPE's OK body: spans, then granules erased (R172, section 11.4). -/
def wipeBody (spans : List Span) : Bytes :=
  byteOf spans.length :: le 2 ((spans.map Span.granules).sum)

/-- The wipe's transaction takes effect: with spans to erase the port is taken and the first granule's ready wait
begins; with none the request completes at once (R171, R172). -/
def wipeEffect (spans : List Span) (s : State) : State :=
  let t := (s.setStore (s.store.wiped spans)).setCred { s.cred with state := .unset }
  if spans = [] then t.respond .ok (wipeBody [])
  else (t.takePort.setJob .granuleWait).engineTurn

/-- The granule after the one just erased: the next of its span, or the first of the next span; none after the
last (R172). -/
def nextGranule : List Span → Nat → Option Nat
  | [], _ => none
  | p :: rest, at_ =>
    if p.base ≤ at_ ∧ at_ < p.limit then
      if at_ + Config.granule < p.limit then some (at_ + Config.granule)
      else rest.head?.map (·.base)
    else nextGranule rest at_

/-- The marker after its granule's erase, advanced or removed (R172). -/
def WipeMarker.advanced (m : WipeMarker) : Option WipeMarker :=
  (nextGranule m.spans m.next).map fun next => { m with next := next }

/-- A granule's marker write takes effect (R172): the next granule's ready wait begins, or the wipe is complete. A
wipe that a request began hands the port back and answers; one completed at start-up goes on to VERIFIED (R173). -/
def markerEffect (m : WipeMarker) (s : State) : Flow :=
  let t := s.setStore { s.store with marker := m.advanced }
  if m.advanced.isSome then .on (t.setJob .granuleWait).engineTurn
  else if t.boot.phase = .completing then finishStart t
  else .on (t.returnPort.respond .ok (wipeBody m.spans))

/-! ## The end of a comparison (R162, R165, R167, R169) -/

/-- A matching owner proof: UNLOCKED, and the trigger UNLOCKED is raised (R167). -/
def ownerMatched (s : State) : Flow :=
  (offerSequence .unlocked ((s.setJob .idle).setCred { s.cred with state := .unlocked })).andThen fun t =>
    .on (t.respond .ok t.attemptsBody)

/-- A LOCKED store unlocked by the recovery code (R169). -/
def CredStore.recovered (c : CredStore) : CredStore :=
  if c.state = .locked then { c with state := .unlocked } else c

/-- A matching code proof: UNLOCK, or the WIPE it goes on as (R169). -/
def recoveryMatched (wipe : Bool) (s : State) : State :=
  if wipe then s.beginWipe
  else
    let t := (s.setJob .idle).setCred s.cred.recovered
    t.respond .ok t.attemptsBody

/-- COMPARISON_END: an owner or recovery comparison ends (R162). -/
def execComparisonEnd (s : State) : Result :=
  if s.alive then
    match s.job with
    | .compareOwner proof =>
      if s.store.verifier = some (s.fuses.ownerVerifierOf proof) then (ownerMatched s).result
      else .next (comparisonFailed s)
    | .compareRecovery proof wipe =>
      if s.fuses.recoveryVerifier = s.fuses.recoveryVerifierOf proof then .next (recoveryMatched wipe s)
      else .next (comparisonFailed s)
    | _ => .fault .notInProgress
  else .next s

/-! ## Release policies (R175) -/

/-- A verdict's bit in the allowed-verdicts set (section 11.3). -/
def Verdict.bit : Verdict → Nat
  | .normal => 0
  | .trial => 1
  | .fallback => 2
  | .recovery => 3

/-- One reason bit, if its condition fails. -/
def reasonIf (failed : Bool) (bit : Byte) : Byte :=
  if failed then bit else 0

/-- The reason bits of the conditions that fail now (R175). -/
def State.policyFailures (s : State) (b : Booted) (p : Policy) : Byte :=
  reasonIf (decide (p.ownerRequired ≠ 0) && decide (s.cred.state ≠ .unlocked)) Reason.owner
    ||| reasonIf (decide (s.epoch < p.minEpoch.toNat)) Reason.epoch
    ||| reasonIf (!p.verdicts.getLsbD b.verdict.bit) Reason.verdict
    ||| reasonIf (decide (p.forbidden &&& s.flags.setWidth 16 ≠ 0)) Reason.flags
    ||| reasonIf (decide (p.presence ≠ 0) && !s.stack.answers p.label p.expected) Reason.stage

/-! ## Credential records (R174, R176 to R180) -/

/-- The credential index a body begins with, if it is at most 15. -/
def indexOf (body : Bytes) : Option Nat :=
  if (byteAt body 0).toNat ≤ 15 then some (byteAt body 0).toNat else none

/-- The record at an index, if it is not empty. -/
def State.credential (s : State) (index : Nat) : Option Credential :=
  (s.store.creds[index]?).join

/-- A credential kind's code (section 11.5). -/
def credKindOf (b : Byte) : Option CredKind :=
  if b = 1 then some .secret else if b = 2 then some .key else none

/-- The values a policy admits (R176, R193). -/
def Policy.admitted (p : Policy) : Bool :=
  decide (p.minEpoch.toNat ≤ 64) && decide (1 ≤ p.verdicts.toNat) && decide (p.verdicts.toNat ≤ 15)
    && decide (p.forbidden.toNat < 1024) && decide (p.presence.toNat ≤ 1)

/-- The credential a PUT_CREDENTIAL body carries, with its index, if every value is admitted (R176, R193). -/
def putOf (body : Bytes) : Option (Nat × Credential) :=
  let length := (byteAt body 52).toNat
  let policy := Policy.ofBytes (slice body 10 42)
  match indexOf body, credKindOf (byteAt body 1) with
  | some index, some kind =>
    if length = body.length - 53 ∧ 1 ≤ length ∧ length ≤ 64 ∧ policy.admitted then
      some (index, { label := slice body 2 8, kind := kind, value := slice body 53 length,
                     policy := policy })
    else none
  | _, _ => none

/-- PUT_CREDENTIAL (R176). -/
def execPutCredential (s : State) : Result :=
  takeRequest .putCredential s fun body t =>
    match putOf body with
    | none => .next (t.respond .badArgument [])
    | some (index, c) =>
      unlessFrozen t <| whereOwned t <| .next (t.beginWrite (.putCredential index c))

/-- A credential record's write takes effect, and the request answers with the index (R176, R177). -/
def credentialEffect (index : Nat) (c : Option Credential) (s : State) : State :=
  (s.setStore { s.store with creds := s.store.creds.setIfInBounds index c }).respond .ok [byteOf index]

/-- DELETE_CREDENTIAL (R177). -/
def execDeleteCredential (s : State) : Result :=
  takeRequest .deleteCredential s fun body t =>
    match indexOf body with
    | none => .next (t.respond .badArgument [])
    | some index =>
      unlessFrozen t <| whereOwned t <|
        if (t.credential index).isSome then .next (t.beginWrite (.deleteCredential index))
        else .next (t.respond .notFound [])

/-- A denial: CRED_DENIED is logged after the decision, then the response is placed (R178, R182). -/
def denyCredential (index : Nat) (reasons : Byte) (s : State) : Result :=
  ((logIncident (plainIncident .credDenied noRegion reasons index) s).andThen fun t =>
    .on (t.respond .denied [reasons])).result

/-- The cases GET_CREDENTIAL and MAC_WITH_CREDENTIAL share, the kinds' roles exchanged (R178, R179). -/
def useCredential (kind : CredKind) (body : Bytes) (s : State) (go : Nat → Credential → Result) : Result :=
  withBooted s fun b =>
    match indexOf body with
    | none => .next (s.respond .badArgument [])
    | some index =>
      match s.credential index with
      | none => .next (s.respond .notFound [])
      | some c =>
        if c.kind ≠ kind then denyCredential index Reason.kind s
        else if s.policyFailures b c.policy ≠ 0 then
          denyCredential index (s.policyFailures b c.policy) s
        else go index c

/-- GET_CREDENTIAL (R178). -/
def execGetCredential (s : State) : Result :=
  takeRequest .getCredential s fun body t =>
    useCredential .secret body t fun index c =>
      .next (t.respond .ok ([byteOf index, c.kind.code, byteOf c.value.length] ++ c.value))

/-- LIST_CREDENTIALS (R180). -/
def execListCredentials (s : State) : Result :=
  takeRequest .listCredentials s fun _ t =>
    let listed := (List.range 16).filterMap fun i => (t.credential i).map fun c => c.listing i
    .next (t.respond .ok (byteOf listed.length :: listed.flatten))

/-- MAC_WITH_CREDENTIAL: for a KEY record whose policy holds the computation begins (R179). -/
def execMacWithCredential (s : State) : Result :=
  takeRequest .macWithCredential s fun body t =>
    useCredential .key body t fun _ c => .next (t.setJob (.computeMac c.value (body.drop 1)))

/-- MAC_COMPLETE (R179). -/
def execMacComplete (s : State) : Result :=
  if s.alive then
    match s.job with
    | .computeMac key data => .next ((s.setJob .idle).respond .ok (hmac key data))
    | _ => .fault .notInProgress
  else .next s

end Sys2Proof.Machine
end

