-- ==== Sys2Proof/Machine/Engine.lean ====
section
/-! DEFINITION. The Verification Engine's flash work (R19, R20, R172) and the effects of the Record Store's and the
Fuse Block's writes (R68). -/

namespace Sys2Proof.Machine

/-! ## Ready waits (R19) -/

/-- The granule the wipe marker names is erased next: the WRITE_ENABLE and ERASE_4K rows of R20 at its address. -/
def State.granuleTx (s : State) (m : WipeMarker) : OpenTransaction :=
  .engineErase (lowestRow s.classes fun e => e.cls = .writeEnable)
    (lowestRow s.classes fun e =>
      decide (e.cls = .erase4k) && (decide (s.fuses.sizeExponent ≤ 24) || decide (e.addrLen = 4)))
    m.next

/-- What a completed ready wait leads to (R70 item 7, R145, R172, R20). -/
def readyWaitDone (s : State) : Result :=
  match s.job with
  | .startWait => .next ((s.setJob .idle).setPort { s.port with openTx := .none }).trySelect
  | .stageWait =>
    withBooted s fun b =>
      .next ((s.setJob .stageCheck).setPort
        { s.port with openTx := s.fuses.engineReadTx (s.stageInput b).address })
  | .granuleWait =>
    match s.store.marker with
    | some m => .next ((s.setJob .granuleErase).setPort { s.port with openTx := s.granuleTx m })
    | none => .fault .notInProgress
  | .granuleErase => .next ((s.setJob .granuleErased).setPort { s.port with openTx := .none })
  | _ => .fault .notInProgress

/-- The next poll of a ready wait: the WRITE_ENABLE and the ERASE_4K of a granule erase have ended by then (R19,
R20). -/
def State.pollAgain (s : State) : State :=
  match s.port.openTx with
  | .engineErase _ _ _ => s.setPort { s.port with openTx := .engineStatus (pollOf s.classes) }
  | _ => s

/-- READY_WAIT_POLL: an engine status read completes (R19). A set busy bit issues another. -/
def execReadyWaitPoll (status : Byte) (s : State) : Result :=
  if s.alive then
    match s.port.openTx with
    | .engineStatus _ | .engineErase _ _ _ =>
      if status.getLsbD s.fuses.busyBit then .next s.pollAgain else readyWaitDone s
    | .none | .host _ _ _ _ | .engineRead _ _ _ => .fault .notInProgress
  else .next s

/-- ENGINE_GRANULE_ERASE: the Flash Port reports a granule's erase, and the marker's write begins (R20, R172). -/
def execEngineGranuleErase (s : State) : Result :=
  if s.alive then
    match s.job with
    | .granuleErased => .next ((s.setJob .idle).beginWrite .markerAdvance)
    | _ => .fault .notInProgress
  else .next s

/-! ## Writes of the start (R70, R74, R76, R77) -/

/-- The boot-count write takes effect; then the fuse check, and the ready wait if a ready-poll entry is present
(R70 items 5 to 7, R72). -/
def bootCountEffect (s : State) : State :=
  let t := s.setStore { s.store with bootCount := satInc s.store.bootCount }
  if t.fuses.usable then
    if t.port.readyPoll.isSome then (t.setJob .startWait).engineTurn else t.trySelect
  else t.halt

/-- The trial decrement takes effect; only then is the pending slot's manifest checked (R76). -/
def trialDecrementEffect (slot : Slot) (s : State) : State :=
  (s.setSlots { s.store.slots with trials := s.store.slots.trials - 1 }).beginCheck (.pending slot)

/-- The pending-cleared write takes effect; the revert count's write follows (R74, R76, R77). -/
def pendingClearedEffect (slot : Slot) (expired : Bool) (s : State) : State :=
  (s.setSlots s.store.slots.cleared).beginWrite (.revertCount slot expired)

/-- TRIAL_EXPIRED for an expired slot (R77). -/
def logExpired (slot : Slot) (expired : Bool) (s : State) : Flow :=
  if expired then
    logIncident (plainIncident .trialExpired noRegion Detail.none (s.fuses.manifestAddress slot)) s
  else .on s

/-- The revert count's write takes effect: REVERTED is set, an expiry is logged, and selection continues at the
committed step (R74, R76, R77). -/
def revertCountEffect (slot : Slot) (expired : Bool) (s : State) : Flow :=
  (logExpired slot expired
    ((s.setStore { s.store with revertCount := satInc s.store.revertCount }).raiseFlag .reverted)).andThen
    fun t => .on t.enterCommitted

/-! ## WRITE_TAKES_EFFECT (R68) -/

/-- A start's write goes on only while its start is SELECTING. -/
def whileSelecting (s : State) (go : Result) : Result :=
  if s.boot.phase = .selecting then go else .fault .notInProgress

/-- What a write's taking effect does, and how the operation that made it goes on. -/
def writeEffect (w : Write) (s : State) : Result :=
  match w with
  | .bootCount => whileSelecting s (.next (bootCountEffect s))
  | .trialDecrement slot => whileSelecting s (.next (trialDecrementEffect slot s))
  | .pendingCleared slot expired => whileSelecting s (.next (pendingClearedEffect slot expired s))
  | .revertCount slot expired => whileSelecting s (revertCountEffect slot expired s).result
  | .pendingSet staged => .next (pendingSetEffect staged s)
  | .abortPending => .next (abortEffect s)
  | .confirmSlot v => withBooted s fun b => (confirmSlotEffect v b s).result
  | .confirmEpoch c => withBooted s fun b => (confirmEpochEffect c b s).result
  | .confirmRevoke c => withBooted s fun b => (confirmRevokeEffect c b s).result
  | .failedTotal => (failedTotalEffect s).result
  | .ownerVerifier v => .next (ownerVerifierEffect v s)
  | .recoveryLevel level => .next (recoveryLevelEffect level s)
  | .wipe spans => .next (wipeEffect spans s)
  | .markerAdvance =>
    match s.store.marker with
    | some m => (markerEffect m s).result
    | none => .fault .notInProgress
  | .putCredential index c => .next (credentialEffect index (some c) s)
  | .deleteCredential index => .next (credentialEffect index none s)

/-- WRITE_TAKES_EFFECT: the Record Store or Fuse Block write in progress takes effect whole (R68). -/
def execWriteTakesEffect (s : State) : Result :=
  if s.alive then
    match s.write with
    | some w => writeEffect w (s.setWrite none)
    | none => .fault .notInProgress
  else .next s

end Sys2Proof.Machine
end

