-- ==== Sys2Proof/Machine/Window.lean ====
section
/-! DEFINITION. The Management Window (chapter 3): frame assembly, validation and dispatch, overruns, the response
area, and GET_STATUS. -/

namespace Sys2Proof.Machine

/-! ## Incidents of a host transaction -/

/-- An incident that records the transaction's instruction byte (R182). -/
def State.hostIncident (s : State) (kind : IncidentKind) (region detail : Byte) (addr : Nat) : Incident :=
  { kind := kind, instr := s.host.instr.getD 0, region := region, detail := detail, addr := addr }

/-- An incident at the transaction's logical address in the MAILBOX record (R54, R62). -/
def State.windowIncident (s : State) (kind : IncidentKind) (detail : Byte) : Incident :=
  s.hostIncident kind ((s.mailbox.map fun m => byteOf m.1).getD noRegion) detail (s.host.addr.getD 0)

/-! ## The request buffer -/

/-- The partial frame is discarded (R53, R54, R58). -/
def Window.discard (w : Window) : Window :=
  { w with buffer := [], header := none, frameLength := none }

/-- A frame of the window's own: overrun count 0 and an empty body (R64). -/
def ownFrame (status : Status) (h : FrameHeader) : ResponseFrame :=
  { code := h.code, status := status, overrun := 0, tag := h.tag, body := [] }

/-- A rejected header or a failed check is answered, and assembly is reset with the state DONE (R55, R56). -/
def Window.reject (w : Window) (status : Status) (h : FrameHeader) : Window :=
  { w.discard with state := .done, response := ownFrame status h }

/-- The rest of this program's bytes are discarded (R53, R54, R57, R62). -/
def State.discardRest (s : State) : State :=
  s.setHost { s.host with discarding := true }

/-- A frame's execution starts (R59): the BUSY frame, overrun count 0, EXECUTING, and the dispatch checks. -/
def Window.executing (w : Window) (h : FrameHeader) : Window :=
  { w with state := .executing, overrun := 0, response := ownFrame .busy h }

/-- The checks of R59, in order: the request code, then the body length; otherwise the request is dispatched. -/
def State.dispatch (s : State) (h : FrameHeader) : State :=
  match Request.ofCode h.code with
  | none => s.respond .unknownRequest []
  | some r =>
    if r.admitsLength h.bodyLength then s.setWindow { s.window with dispatched := some r }
    else s.respond .badArgument []

/-- The 8th byte completes the header, which is accepted or rejected (R55). -/
def headerComplete (s : State) : Flow :=
  let h := decodeHeader s.window.buffer
  if h.magic = requestMagic ∧ h.bodyLength ≤ Config.maxBody then
    .on (s.setWindow
      { s.window with header := some h, frameLength := some (8 + h.bodyLength + 2) })
  else
    logIncident (s.windowIncident .frameBad Detail.header)
      ((s.setWindow (s.window.reject .badFrame h)).discardRest)

/-- The last byte completes the frame: its check fails, or its execution starts (R56, R59). -/
def frameComplete (s : State) : Flow :=
  let h := s.window.header.getD (decodeHeader s.window.buffer)
  if frameCheckMatches s.window.buffer then
    .on (((s.setWindow (s.window.executing h)).discardRest).dispatch h)
  else
    logIncident (s.windowIncident .frameBad Detail.check)
      ((s.setWindow (s.window.reject .badCheck h)).discardRest)

/-- A byte is appended (R53 to R56). -/
def appendByte (b : Byte) (s : State) : Flow :=
  let t := s.setWindow { s.window with state := .assembling, buffer := s.window.buffer ++ [b] }
  if t.window.buffer.length = 8 then headerComplete t
  else if t.window.frameLength = some t.window.buffer.length then frameComplete t
  else .on t

/-! ## Breaks and overruns -/

/-- An overrun is counted and logged (R58, R62); its detail is the executing request's code. -/
def countOverrun (s : State) : Flow :=
  logIncident
    (s.windowIncident .requestOverrun ((s.window.header.map (·.code)).getD 0))
    (s.setWindow { s.window with overrun := satInc s.window.overrun })

/-- A sequence or page-wrap break is logged; one program logs at most one (R53, R54). -/
def logBreak (detail : Byte) (s : State) : Flow :=
  if s.host.breakLogged then .on s
  else logIncident (s.windowIncident .frameBad detail) (s.setHost { s.host with breakLogged := true })

/-- The first data byte of a request-area program, landing at `w` (R53, R62). -/
def firstByte (b : Byte) (w : Nat) (s : State) : Flow :=
  match s.window.state with
  | .executing => countOverrun s.discardRest
  | .idle | .done =>
    if w = s.window.buffer.length then appendByte b s
    else logBreak Detail.sequenceBreak s.discardRest
  | .assembling =>
    if w = s.window.buffer.length then appendByte b s
    else if w = 0 then
      (logBreak Detail.sequenceBreak (s.setWindow s.window.discard)).andThen (appendByte b)
    else
      logBreak Detail.sequenceBreak
        ((s.setWindow { s.window.discard with state := .idle }).discardRest)

/-- Where data byte `j` of a program at `w` lands: within the page of `w` (R52). -/
def landing (w j : Nat) : Nat :=
  (w - w % 256) + (w % 256 + j) % 256

/-- A later data byte of the same program (R54, R57). -/
def laterByte (b : Byte) (w j : Nat) (s : State) : Flow :=
  match s.window.state with
  | .assembling =>
    if landing w j = s.window.buffer.length then appendByte b s
    else
      logBreak Detail.pageWrap
        ((s.setWindow { s.window.discard with state := .idle }).discardRest)
  | .idle | .executing | .done => .on s.discardRest

/-- A data byte of a request-area program at window offset `w` (R52). -/
def assembleByte (b : Byte) (w : Nat) (s : State) : Flow :=
  let j := s.host.dataCount
  let t := s.setHost { s.host with dataCount := j + 1 }
  if s.host.discarding then .on t
  else if j = 0 then firstByte b w t
  else laterByte b w j t

/-- An ERASE_4K of the request granule (R58). -/
def eraseRequestGranule (s : State) : Flow :=
  match s.window.state with
  | .idle => .on s
  | .assembling => .on (s.setWindow { s.window.discard with state := .idle })
  | .done => .on (s.setWindow { s.window with state := .idle })
  | .executing => countOverrun s

/-! ## The response area -/

/-- Byte `position` of the presented response frame; fill beyond it (R37, R64). -/
def Window.responseByte (w : Window) (position : Nat) : Byte :=
  w.response.bytes.getD position Config.fill

/-! ## GET_STATUS (R66) -/

/-- The deadline field: 0 for STOPPED (R194). -/
def Deadline.field : Deadline → Nat
  | .stopped => 0
  | .running n => n

/-- The 29-byte GET_STATUS body (R66, section 11.4). -/
def State.statusBody (s : State) (b : Booted) : Bytes :=
  [b.verdict.code, b.running.code, b.target.code, s.boot.cause.code, s.store.slots.committed.code,
   slotCode s.store.slots.pending, byteOf s.store.slots.trials]
    ++ le 4 s.store.bootCount.toNat ++ le 2 s.store.revertCount.toNat
    ++ [byteOf s.epoch, s.fuses.revokedBits, s.session.code, s.cred.state.code, s.storeAttributes,
        byteOf s.cred.attempts]
    ++ le 2 s.flags.toNat ++ [byteOf s.stack.top] ++ le 4 s.log.newest.toNat
    ++ [byteOf s.schedule.cursor] ++ le 2 s.schedule.deadline.field

/-- GET_STATUS (R66): completed by the window at once. -/
def execGetStatus (s : State) : Result :=
  takeRequest .getStatus s fun _ t =>
    withBooted t fun b => .next (t.respond .ok (t.statusBody b))

end Sys2Proof.Machine
end

