-- ==== Sys2Proof/Machine/HostPort.lean ====
section
/-! DEFINITION. The Host Port (chapter 1) and the Address Path's decisions (sections 2.4 to 2.6): the start and
end of a transaction, instruction bytes, completed addresses, and data bytes. -/

namespace Sys2Proof.Machine

/-! ## Phases (R1) -/

/-- The entry of a byte that is not listed, and of every byte until the host runs (R4, R89). -/
def ClassEntry.startUp : ClassEntry :=
  { cls := .deny, addrLen := 0, dummy := 0, lanes := 1 }

/-- The entry an instruction byte takes now (R4, R89, R90). -/
def State.classify (s : State) (b : Byte) : ClassEntry :=
  if s.boot.phase = .running then
    match s.classes.find? fun row => row.byte = b with
    | some row => row.entry
    | none => .startUp
  else .startUp

/-- Whether a class has a data phase (R5). -/
def InstrClass.hasData : InstrClass → Bool
  | .read | .program | .statusRead | .pass | .deny => true
  | .erase4k | .erase32k | .erase64k | .eraseAll | .writeEnable | .writeDisable => false

/-- The phase after the dummy phase (R1). -/
def ClassEntry.afterDummy (e : ClassEntry) : Phase :=
  if e.cls.hasData then .data else .trail

/-- The phase after the address phase (R1). -/
def ClassEntry.afterAddress (e : ClassEntry) : Phase :=
  if 1 ≤ e.dummy then .dummy else e.afterDummy

/-- The phase after the instruction byte (R1). -/
def ClassEntry.afterInstruction (e : ClassEntry) : Phase :=
  if e.addrLen = 3 ∨ e.addrLen = 4 then .address else e.afterAddress

/-! ## Beginning and end -/

/-- HOST_TRANSACTION_BEGIN: HCS_N is asserted (R1). While RESET_N is held the transaction is abandoned (R68), and
without the supply there is no record to begin. -/
def execHostTransactionBegin (s : State) : Result :=
  if s.pins.hcsAsserted then .fault .levelHeld
  else
    let t := s.setPins { s.pins with hcsAsserted := true }
    if s.alive then .next (t.setHost { HostRecord.idle with phase := .instruction })
    else if s.pins.supply then .next (t.setHost .abandoned)
    else .next t

/-- A forwarded host transaction closes: FCS_N is released (R2, R11, R39). -/
def FlashPort.closeHost (p : FlashPort) : FlashPort :=
  match p.openTx with
  | .host _ _ _ _ => { p with openTx := .none }
  | _ => p

/-- HOST_TRANSACTION_END: HCS_N is released (R2). FCS_N is released for a forwarded transaction, and an engine
transaction that waited for it begins (R17). -/
def execHostTransactionEnd (s : State) : Result :=
  if s.pins.hcsAsserted then
    let t := s.setPins { s.pins with hcsAsserted := false }
    let u := t.setHost
      { t.host with phase := .idle, stream := none, fillLatched := false, fillLogged := false }
    .next (u.setPort u.port.closeHost).engineTurn
  else .fault .levelHeld

/-! ## Instruction bytes (R1, R3, R7 to R10, R15, R16) -/

/-- The three things that happen together when the instruction byte arrives (R1, R3). -/
def State.takeByte (s : State) (b : Byte) : State :=
  let e := s.classify b
  s.setHost
    { s.host with
      instr := some b, entry := some e, judgement := some s.port.owner, phase := e.afterInstruction }

/-- The one class. -/
def isClass (k c : InstrClass) : Bool :=
  decide (c = k)

/-- An instruction byte of one of the admitted classes arrives; an abandoned transaction discards it (R21). Without the
supply nothing receives a byte of the Host Port (assumption 15). -/
def onInstruction (admitted : InstrClass → Bool) (b : Byte) (s : State) (go : State → Result) : Result :=
  if s.pins.supply then
    match s.host.phase with
    | .abandoned => .next s
    | .instruction => if admitted (s.classify b).cls then go (s.takeByte b) else .fault .wrongClass
    | .idle | .address | .dummy | .data | .trail => .fault .wrongPhase
  else .next s

/-- Records the decision (R6). -/
def State.setDecision (s : State) (d : Decision) : State :=
  s.setHost { s.host with decision := some d }

/-- The Flash Port opens a forwarded transaction with the record's instruction byte and lane width (R9, R11). No engine
transaction is open then: DESIGN CHOICE (assumption 25), the engine waits while a transaction judged HOST_PASS may
still be forwarded (`State.engineTurn`), where R3, R17 and R145 do not say which of the two waits. -/
def State.openForwarded (s : State) (physical : Option Nat) : State :=
  s.setPort
    { s.port with
      openTx := .host (s.host.instr.getD 0) (s.host.entry.getD .startUp).lanes physical none }

/-- The detail byte of PORT_HELD: the class (R15). -/
def State.classCode (s : State) : Byte :=
  (s.host.entry.getD .startUp).cls.code

/-- PORT_HELD with an address (R15). -/
def logPortHeld (addr : Nat) (s : State) : Flow :=
  logIncident (s.hostIncident .portHeld noRegion s.classCode addr) s

/-- A DENY instruction byte (R7). -/
def execDeny (b : Byte) (s : State) : Result :=
  onInstruction (isClass .deny) b s fun t =>
    (logIncident (t.hostIncident .instrDenied noRegion Detail.none 0) (t.setDecision .fill)).result

/-- An ERASE_ALL instruction byte (R8). -/
def execEraseAll (b : Byte) (s : State) : Result :=
  onInstruction (isClass .eraseAll) b s fun t =>
    (logIncident (t.hostIncident .writeRefused noRegion Detail.eraseAll 0) (t.setDecision .refuse)).result

/-- A class forwarded without examination under HOST_PASS; under ENGINE it takes another decision and logs
PORT_HELD (R9, R10, R15). -/
def forwardUnexamined (held : Decision) (t : State) : Result :=
  if t.host.judgement = some .engine then (logPortHeld 0 (t.setDecision held)).result
  else .next ((t.setDecision .forward).openForwarded none)

/-- A PASS instruction byte (R9, R15). -/
def execPass (b : Byte) (s : State) : Result :=
  onInstruction (isClass .pass) b s (forwardUnexamined .absorb)

/-- A WRITE_ENABLE instruction byte (R9, R15). -/
def execWriteEnable (b : Byte) (s : State) : Result :=
  onInstruction (isClass .writeEnable) b s (forwardUnexamined .absorb)

/-- A WRITE_DISABLE instruction byte (R9, R15). -/
def execWriteDisable (b : Byte) (s : State) : Result :=
  onInstruction (isClass .writeDisable) b s (forwardUnexamined .absorb)

/-- A STATUS_READ instruction byte (R10, R16). -/
def execStatusRead (b : Byte) (s : State) : Result :=
  onInstruction (isClass .statusRead) b s (forwardUnexamined .synthStatus)

/-- The classes whose address the Address Path decides (R6). -/
def InstrClass.addressed : InstrClass → Bool
  | .read | .program | .erase4k | .erase32k | .erase64k => true
  | .eraseAll | .writeEnable | .writeDisable | .statusRead | .pass | .deny => false

/-- The instruction byte of an addressed class (R1, R3). -/
def execInstructionByte (b : Byte) (s : State) : Result :=
  onInstruction InstrClass.addressed b s fun t => .next t

/-! ## Completed addresses (R6) -/

/-- The address of a transaction of one class completes: a is its number modulo F (R6). -/
def onAddress (cls : InstrClass) (address : Bytes) (s : State) (go : ClassEntry → Nat → State → Result) :
    Result :=
  if s.pins.supply then
    match s.host.phase, s.host.entry with
    | .abandoned, _ => .next s
    | .address, some e =>
      if e.cls = cls then
        if address.length = e.addrLen then
          let a := ofBe address % s.flashSize
          go e a
            (s.setHost { s.host with addrBytes := address, addr := some a, phase := e.afterAddress })
        else .fault .wrongAddressLength
      else .fault .wrongClass
    | _, _ => .fault .wrongPhase
  else .next s

/-- WRITE_REFUSED with a detail; the rest of the program's bytes are discarded (R12, R38, R39, R44). -/
def refuseWrite (seg : Segment) (detail : Byte) (a : Nat) (s : State) : Flow :=
  logIncident (s.hostIncident .writeRefused seg.region detail a)
    (s.setHost { s.host with decision := some .refuse, discarding := true })

/-- A PROGRAM or erase is forwarded at a physical address, unless the entry cannot carry it (R14). -/
def forwardWrite (e : ClassEntry) (seg : Segment) (a physical : Nat) (s : State) : Flow :=
  if e.carries physical then .on ((s.setDecision .forward).openForwarded (some physical))
  else refuseWrite seg Detail.carry a s

/-- A PROGRAM or erase judged ENGINE outside the window is absorbed (R15). -/
def absorbWrite (a : Nat) (s : State) : Flow :=
  logPortHeld a (s.setHost { s.host with decision := some .absorb, discarding := true })

/-! ### READ (R33, R37, R14, R15) -/

/-- The stream's context begins (R33). -/
def State.beginStream (s : State) (seg : Segment) (mode : StreamMode) (d : Decision) (latched : Bool) :
    State :=
  s.setHost
    { s.host with
      decision := some d
      fillLatched := latched
      stream := some { index := 0, segment := seg, mode := mode, previous := none } }

/-- The window offset of a logical address (R49). -/
def State.windowOffset (s : State) (a : Nat) : Nat :=
  a - (s.mailbox.map (·.2.base)).getD 0

/-- A fill incident of a stream, logged unless the stream has logged its one (R11, R36). -/
def logFill (i : Incident) (s : State) : Flow :=
  if s.host.fillLogged then .on s
  else logIncident i (s.setHost { s.host with fillLogged := true })

/-- The decision for a READ's address (R14, R15, R33, R37). -/
def decideRead (e : ClassEntry) (a : Nat) (s : State) : Flow :=
  let seg := s.lookup a
  if s.isMailbox seg then
    .on (s.beginStream seg .window .window (decide (s.windowOffset a < Config.requestArea)))
  else if s.host.judgement = some .engine then
    logPortHeld a (s.beginStream seg .flash .fill true)
  else if s.effectiveRule seg = .noAccess then
    logFill (s.hostIncident .readFilled seg.region Access.noAccess.code a)
      (s.beginStream seg .flash .fill true)
  else if e.carries (s.translate seg a) then
    .on ((s.beginStream seg .flash .forward false).openForwarded (some (s.translate seg a)))
  else
    logFill (s.hostIncident .boundaryFill seg.region Detail.carry a)
      (s.beginStream seg .flash .fill true)

/-- READ: its address completes (R33). -/
def execRead (address : Bytes) (s : State) : Result :=
  onAddress .read address s fun e a t => (decideRead e a t).result

/-! ### PROGRAM (R38, R40, R12, R15) -/

/-- The decision for a program in the MAILBOX record (R40): one into the response area is refused there. -/
def decideWindowProgram (seg : Segment) (a : Nat) (s : State) : Flow :=
  if s.windowOffset a < Config.requestArea then .on (s.setDecision .window)
  else
    logIncident (s.hostIncident .writeRefused seg.region Detail.responseArea a)
      (s.setHost { s.host with decision := some .window, discarding := true })

/-- The decision for a PROGRAM's address (R38). -/
def decideProgram (e : ClassEntry) (a : Nat) (s : State) : Flow :=
  let seg := s.lookup a
  if s.isMailbox seg then decideWindowProgram seg a s
  else if s.host.judgement = some .engine then absorbWrite a s
  else if s.effectiveRule seg = .openAll then forwardWrite e seg a (s.translate seg a) s
  else refuseWrite seg (s.effectiveRule seg).code a s

/-- PROGRAM: its address completes (R38). -/
def execProgram (address : Bytes) (s : State) : Result :=
  onAddress .program address s fun e a t => (decideProgram e a t).result

/-! ### Erases (R13, R41 to R44, R15) -/

/-- The three conditions on an erase span of size `size`, in order; the first that fails gives the detail (R43). -/
def eraseRefusal (size s0 : Nat) (s : State) : Option Byte :=
  let seg := s.lookup s0
  if s.lookup (s0 + size - 1) ≠ seg then some Detail.spanCrosses
  else if s.effectiveRule seg ≠ .openAll then some (s.effectiveRule seg).code
  else if s.translate seg s0 % size ≠ 0 then some Detail.spanMisaligned
  else none

/-- The decision for an erase span outside the window (R41, R43, R44). -/
def decideErase (size : Nat) (e : ClassEntry) (a : Nat) (s : State) : Flow :=
  if s.host.judgement = some .engine then absorbWrite a s
  else
    let s0 := a - a % size
    match eraseRefusal size s0 s with
    | some detail => refuseWrite (s.lookup a) detail a s
    | none => forwardWrite e (s.lookup a) a (s.translate (s.lookup s0) s0) s

/-- The window effect of an ERASE_4K, on the granule it names (R42, R58). -/
def eraseWindow (a : Nat) (s : State) : Flow :=
  if s.windowOffset a < Config.requestArea then eraseRequestGranule (s.setDecision .window)
  else .on (s.setDecision .window)

/-- ERASE_4K: its address completes (R13). -/
def execErase4k (address : Bytes) (s : State) : Result :=
  onAddress .erase4k address s fun e a t =>
    if t.isMailbox (t.lookup a) then (eraseWindow a t).result
    else (decideErase 4096 e a t).result

/-- ERASE_32K: its address completes (R43). -/
def execErase32k (address : Bytes) (s : State) : Result :=
  onAddress .erase32k address s fun e a t => (decideErase 32768 e a t).result

/-- ERASE_64K: its address completes (R43). -/
def execErase64k (address : Bytes) (s : State) : Result :=
  onAddress .erase64k address s fun e a t => (decideErase 65536 e a t).result

/-! ## Bytes the host reads (R34 to R37, R7, R9, R10, R15, R16, R21) -/

/-- A byte is driven to the host. -/
def State.drive (s : State) (b : Byte) : State :=
  s.setHost { s.host with driven := some b }

/-- Fill is latched: FCS_N is released for the forwarded read, and this byte is fill (R35, R36). -/
def State.latchFill (s : State) : State :=
  (s.setPort s.port.closeHost).setHost
    { s.host with fillLatched := true, driven := some Config.fill }

/-- A byte of the forwarded read is driven: its segment and physical address become the stream's (R34, R35). -/
def State.deliver (s : State) (st : ReadStream) (seg : Segment) (physical : Nat) (b : Byte) : State :=
  s.setHost
    { s.host with
      driven := some b
      stream := some
        { index := st.index + 1, segment := seg, mode := st.mode, previous := some physical } }

/-- Whether byte i of a stream lies outside its current segment: beyond it, or wrapped from F − 1 to 0 (R35). -/
def State.leavesSegment (s : State) (st : ReadStream) (a : Nat) : Bool :=
  (decide (a = 0) && decide (st.index ≠ 0)) || !s.inSegment st.segment a

/-- A stream byte within the current segment (R34, R14). -/
def sameSegmentByte (flash : Byte) (e : ClassEntry) (st : ReadStream) (a : Nat) (s : State) : Flow :=
  let p := match st.previous with
    | none => s.translate st.segment a
    | some q => (q + 1) % s.flashSize
  if s.effectiveRule st.segment = .noAccess then
    logFill (s.hostIncident .readFilled st.segment.region Access.noAccess.code a) s.latchFill
  else if e.carries p then .on (s.deliver st st.segment p flash)
  else logFill (s.hostIncident .boundaryFill st.segment.region Detail.carry a) s.latchFill

/-- A stream byte that enters a new segment: the first line of R35 that applies. -/
def newSegmentByte (flash : Byte) (e : ClassEntry) (st : ReadStream) (a : Nat) (s : State) : Flow :=
  let seg := s.lookup a
  let p := s.translate seg a
  if s.isMailbox seg then
    logFill (s.hostIncident .boundaryFill seg.region Detail.windowEntered a) s.latchFill
  else if s.effectiveRule seg = .noAccess then
    logFill (s.hostIncident .readFilled seg.region Access.noAccess.code a) s.latchFill
  else if (st.previous.map fun q => (q + 1) % s.flashSize) ≠ some p then
    logFill (s.hostIncident .boundaryFill seg.region Detail.discontinuous a) s.latchFill
  else if e.carries p then .on (s.deliver st seg p flash)
  else logFill (s.hostIncident .boundaryFill seg.region Detail.carry a) s.latchFill

/-- A byte of a stream in mode FLASH (R34, R35). -/
def flashByte (flash : Byte) (e : ClassEntry) (st : ReadStream) (a : Nat) (s : State) : Flow :=
  if s.leavesSegment st a then newSegmentByte flash e st a s else sameSegmentByte flash e st a s

/-- A byte of a stream in mode WINDOW, begun in the response area (R37). -/
def windowByte (st : ReadStream) (a : Nat) (s : State) : Flow :=
  if s.leavesSegment st a then
    logFill (s.hostIncident .boundaryFill st.segment.region Detail.windowLeft a) s.latchFill
  else
    .on (s.setHost
      { s.host with
        driven := some (s.window.responseByte (s.windowOffset a - Config.requestArea))
        stream := some { st with index := st.index + 1 } })

/-- A byte of a READ's data phase (R11, R34 to R37). -/
def streamByte (flash : Byte) (e : ClassEntry) (s : State) : Result :=
  match s.host.stream, s.host.addr with
  | some st, some a0 =>
    if s.host.fillLatched then .next (s.drive Config.fill)
    else
      let a := (a0 + st.index) % s.flashSize
      match st.mode with
      | .flash => (flashByte flash e st a s).result
      | .window => (windowByte st a s).result
  | _, _ => .fault .wrongPhase

/-- The synthesized status byte: the fused busy bit alone (R16). -/
def Fuses.busyStatus (f : Fuses) : Byte :=
  1#8 <<< f.busyBit

/-! ### Address and dummy bytes (R1) -/

/-- A byte the host sends in the address phase is collected; the last ends the phase (R1). -/
def HostRecord.addressByte (h : HostRecord) (e : ClassEntry) (b : Byte) : HostRecord :=
  { h with
    addrBytes := h.addrBytes ++ [b]
    phase := if h.addrBytes.length + 1 < e.addrLen then .address else e.afterAddress }

/-- A byte of the dummy phase is counted, whichever side drives it; the last ends the phase (R1). -/
def HostRecord.dummyByte (h : HostRecord) (e : ClassEntry) : HostRecord :=
  { h with
    dummyCount := h.dummyCount + 1
    phase := if h.dummyCount + 1 < e.dummy then .dummy else e.afterDummy }

/-- What a byte the host sends does to the phase (R1). -/
def State.sent (s : State) (e : ClassEntry) (b : Byte) : State :=
  match s.host.phase with
  | .address => s.setHost (s.host.addressByte e b)
  | .dummy => s.setHost (s.host.dummyByte e)
  | .idle | .instruction | .data | .trail | .abandoned => s

/-- What a byte the host reads does to the phase: the address phase collects only bytes the host sends (R1). -/
def State.read (s : State) (e : ClassEntry) : State :=
  match s.host.phase with
  | .dummy => s.setHost (s.host.dummyByte e)
  | .idle | .instruction | .address | .data | .trail | .abandoned => s

/-- READ_STREAM_BYTE: the host reads one byte. A READ's dummy byte is counted and its data byte judged (R1, R34 to
R37); a forwarded PASS or STATUS_READ drives the flash's (R9, R10); a held STATUS_READ drives the busy status (R16);
everything else drives fill (R1, R7, R15, R21). A PROGRAM's data phase runs the other way (R5). -/
def execReadStreamByte (flash : Byte) (s : State) : Result :=
  if s.pins.supply then
    match s.host.phase, s.host.entry, s.host.decision with
    | .abandoned, _, _ => .next (s.drive Config.fill)
    | .idle, _, _ => .fault .wrongPhase
    | _, some e, some d =>
      match e.cls, d with
      | .program, _ => .fault .wrongPhase
      | .read, _ => if s.host.phase = .dummy then .next (s.read e) else streamByte flash e s
      | .pass, .forward | .statusRead, .forward => .next ((s.read e).drive flash)
      | .statusRead, .synthStatus => .next ((s.read e).drive s.fuses.busyStatus)
      | _, _ => .next ((s.read e).drive Config.fill)
    | _, _, _ => .fault .wrongPhase
  else .next s

/-! ## Bytes the host sends (R39, R52 to R57, R9, R10) -/

/-- A host byte is sent on to the flash in the open forwarded transaction (R9, R12). -/
def State.sendOn (s : State) (b : Byte) : State :=
  match s.port.openTx with
  | .host byte lanes physical _ => s.setPort { s.port with openTx := .host byte lanes physical (some b) }
  | _ => s

/-- A data byte of a forwarded PROGRAM, judged by the segment that holds a as things stand now (R39). -/
def forwardedByte (b : Byte) (a : Nat) (s : State) : Flow :=
  let seg := s.lookup a
  if s.host.discarding then .on s
  else if s.effectiveRule seg = .openAll then .on (s.sendOn b)
  else
    logIncident (s.hostIncident .writeRefused seg.region (s.effectiveRule seg).code a)
      ((s.setPort s.port.closeHost).discardRest)

/-- A data byte of a PROGRAM (R12, R39, R40). -/
def programByte (b : Byte) (d : Decision) (s : State) : Result :=
  match d, s.host.addr with
  | .forward, some a => (forwardedByte b a s).result
  | .window, some a =>
    match s.mailbox with
    | some _ => (assembleByte b (s.windowOffset a) s).result
    | none => .fault .noManifest
  | _, _ => .next s

/-- PROGRAM_DATA_BYTE: the host sends one byte. A PROGRAM's is judged (R39, R40); a forwarded PASS or STATUS_READ
sends it on (R9, R10); a READ's dummy byte is counted, and its data phase runs the other way (R1, R5); everything else
discards it, once an address or dummy byte has been collected or counted (R1, R7, R21). -/
def execProgramDataByte (b : Byte) (s : State) : Result :=
  if s.pins.supply then
    match s.host.phase, s.host.entry, s.host.decision with
    | .abandoned, _, _ => .next s
    | .idle, _, _ => .fault .wrongPhase
    | _, some e, some d =>
      match e.cls, d with
      | .program, _ => programByte b d s
      | .read, _ => if s.host.phase = .dummy then .next (s.sent e b) else .fault .wrongPhase
      | .pass, .forward | .statusRead, .forward => .next ((s.sent e b).sendOn b)
      | _, _ => .next (s.sent e b)
    | _, _, _ => .fault .wrongPhase
  else .next s

end Sys2Proof.Machine
end

