-- ==== Sys2Proof/Machine/Dispatch.lean ====
section
/-! DEFINITION. One arm a command, each one direct call of its meaning. -/

namespace Sys2Proof.Machine

def exec (i : Instr) (s : State) : Host.Outcome State Fault Refusal :=
  match i with
  | .hostTransactionBegin => Sys2Proof.Machine.execHostTransactionBegin s
  | .deny byte => Sys2Proof.Machine.execDeny byte s
  | .eraseAll byte => Sys2Proof.Machine.execEraseAll byte s
  | .pass byte => Sys2Proof.Machine.execPass byte s
  | .writeEnable byte => Sys2Proof.Machine.execWriteEnable byte s
  | .writeDisable byte => Sys2Proof.Machine.execWriteDisable byte s
  | .statusRead byte => Sys2Proof.Machine.execStatusRead byte s
  | .read address => Sys2Proof.Machine.execRead address s
  | .program address => Sys2Proof.Machine.execProgram address s
  | .erase4k address => Sys2Proof.Machine.execErase4k address s
  | .erase32k address => Sys2Proof.Machine.execErase32k address s
  | .erase64k address => Sys2Proof.Machine.execErase64k address s
  | .readStreamByte flash => Sys2Proof.Machine.execReadStreamByte flash s
  | .programDataByte byte => Sys2Proof.Machine.execProgramDataByte byte s
  | .hostTransactionEnd => Sys2Proof.Machine.execHostTransactionEnd s
  | .readyWaitPoll status => Sys2Proof.Machine.execReadyWaitPoll status s
  | .engineGranuleErase => Sys2Proof.Machine.execEngineGranuleErase s
  | .supplyRise => Sys2Proof.Machine.execSupplyRise s
  | .resetNAssert => Sys2Proof.Machine.execResetNAssert s
  | .resetNRelease => Sys2Proof.Machine.execResetNRelease s
  | .manifestCheckComplete copy content => Sys2Proof.Machine.execManifestCheckComplete copy content s
  | .startUpEntries => Sys2Proof.Machine.execStartUpEntries s
  | .linePinChange line high => Sys2Proof.Machine.execLinePinChange line high s
  | .lineSettlingExpiry line => Sys2Proof.Machine.execLineSettlingExpiry line s
  | .deadlineExpiry => Sys2Proof.Machine.execDeadlineExpiry s
  | .getStatus => Sys2Proof.Machine.execGetStatus s
  | .setLines => Sys2Proof.Machine.execSetLines s
  | .tightenRegion => Sys2Proof.Machine.execTightenRegion s
  | .reboot => Sys2Proof.Machine.execReboot s
  | .openStage => Sys2Proof.Machine.execOpenStage s
  | .extend => Sys2Proof.Machine.execExtend s
  | .extendHashComplete => Sys2Proof.Machine.execExtendHashComplete s
  | .closeStage => Sys2Proof.Machine.execCloseStage s
  | .readMeasurements => Sys2Proof.Machine.execReadMeasurements s
  | .getIdentity => Sys2Proof.Machine.execGetIdentity s
  | .keyDerivationComplete => Sys2Proof.Machine.execKeyDerivationComplete s
  | .quote => Sys2Proof.Machine.execQuote s
  | .quoteSigned => Sys2Proof.Machine.execQuoteSigned s
  | .openUpdate => Sys2Proof.Machine.execOpenUpdate s
  | .stageUpdate => Sys2Proof.Machine.execStageUpdate s
  | .stageCheckComplete copy content => Sys2Proof.Machine.execStageCheckComplete copy content s
  | .abortUpdate => Sys2Proof.Machine.execAbortUpdate s
  | .confirmBoot => Sys2Proof.Machine.execConfirmBoot s
  | .setOwner => Sys2Proof.Machine.execSetOwner s
  | .verifierComputed => Sys2Proof.Machine.execVerifierComputed s
  | .unlock => Sys2Proof.Machine.execUnlock s
  | .comparisonEnd => Sys2Proof.Machine.execComparisonEnd s
  | .lock => Sys2Proof.Machine.execLock s
  | .freeze => Sys2Proof.Machine.execFreeze s
  | .recover => Sys2Proof.Machine.execRecover s
  | .setRecoveryLevel => Sys2Proof.Machine.execSetRecoveryLevel s
  | .wipe => Sys2Proof.Machine.execWipe s
  | .putCredential => Sys2Proof.Machine.execPutCredential s
  | .getCredential => Sys2Proof.Machine.execGetCredential s
  | .deleteCredential => Sys2Proof.Machine.execDeleteCredential s
  | .listCredentials => Sys2Proof.Machine.execListCredentials s
  | .macWithCredential => Sys2Proof.Machine.execMacWithCredential s
  | .macComplete => Sys2Proof.Machine.execMacComplete s
  | .readLog => Sys2Proof.Machine.execReadLog s
  | .instructionByte byte => Sys2Proof.Machine.execInstructionByte byte s
  | .supplyFall => Sys2Proof.Machine.execSupplyFall s
  | .writeTakesEffect => Sys2Proof.Machine.execWriteTakesEffect s

end Sys2Proof.Machine
end

