-- ==== Sys2Proof/WellFormed.lean ====
section
/-! DEFINITION. The checks on a command's operands that do not depend on the state. -/

namespace Sys2Proof

/-- The bytes of a completed address phase: 3 or 4 of them (R5). -/
def addressWf (address : Bytes) : Bool :=
  address.length == 3 || address.length == 4

/-- A line the part senses or could sense; L0 is an output only (R105, R106). -/
def sensibleLine : Line → Bool
  | .l0 => false
  | .l1 | .l2 | .l3 | .l4 | .l5 => true

/-- A flash image lists strictly ascending addresses. -/
def imageWf (image : FlashImage) : Bool :=
  decide (image.Pairwise fun a b => a.1 < b.1)

/-- The operand checks, one line a command that has operands to check. -/
def Instr.wf : Instr → Bool
  | .read address => addressWf address
  | .program address => addressWf address
  | .erase4k address => addressWf address
  | .erase32k address => addressWf address
  | .erase64k address => addressWf address
  | .manifestCheckComplete copy content => imageWf copy && imageWf content
  | .stageCheckComplete copy content => imageWf copy && imageWf content
  | .linePinChange line _ => sensibleLine line
  | .lineSettlingExpiry line => sensibleLine line
  | .hostTransactionBegin | .deny _ | .eraseAll _ | .pass _ | .writeEnable _ | .writeDisable _
  | .statusRead _ | .readStreamByte _ | .programDataByte _ | .hostTransactionEnd | .readyWaitPoll _
  | .engineGranuleErase | .supplyRise | .resetNAssert | .resetNRelease | .startUpEntries
  | .deadlineExpiry | .getStatus | .setLines | .tightenRegion | .reboot | .openStage | .extend
  | .extendHashComplete | .closeStage | .readMeasurements | .getIdentity | .keyDerivationComplete
  | .quote | .quoteSigned | .openUpdate | .stageUpdate | .abortUpdate | .confirmBoot | .setOwner
  | .verifierComputed | .unlock | .comparisonEnd | .lock | .freeze | .recover | .setRecoveryLevel
  | .wipe | .putCredential | .getCredential | .deleteCredential | .listCredentials
  | .macWithCredential | .macComplete | .readLog | .instructionByte _ | .supplyFall
  | .writeTakesEffect => true

end Sys2Proof
end

