-- ==== Sys2Proof/Safety.lean ====
section
/-! DEFINITION. The words the statements are made of: what a step leaves unchanged, when a request can be taken, and
what a good state is. -/

namespace Sys2Proof.Machine

/-! ## Frames -/

/-- The fields of State, by name. -/
inductive Field where
  | pins | host | port | classes | regions | window | boot | schedule | lines | stack | flags
  | quote | session | cred | log | fuses | store | scratch | job | write | pending
deriving DecidableEq, Repr

/-- Two states hold the same in a field. -/
def Field.agrees (s t : State) : Field → Prop
  | .pins => t.pins = s.pins
  | .host => t.host = s.host
  | .port => t.port = s.port
  | .classes => t.classes = s.classes
  | .regions => t.regions = s.regions
  | .window => t.window = s.window
  | .boot => t.boot = s.boot
  | .schedule => t.schedule = s.schedule
  | .lines => t.lines = s.lines
  | .stack => t.stack = s.stack
  | .flags => t.flags = s.flags
  | .quote => t.quote = s.quote
  | .session => t.session = s.session
  | .cred => t.cred = s.cred
  | .log => t.log = s.log
  | .fuses => t.fuses = s.fuses
  | .store => t.store = s.store
  | .scratch => t.scratch = s.scratch
  | .job => t.job = s.job
  | .write => t.write = s.write
  | .pending => t.pending = s.pending

/-- `t` differs from `s` in the named fields at most. -/
def State.onlyChanges (s t : State) (changed : List Field) : Prop :=
  ∀ f : Field, f ∉ changed → f.agrees s t

/-! ## Where a command comes from -/

/-- What brings a command about: the host's bytes, the part's own work, its requests and timers, or a pin. -/
inductive Source where
  | host | part | pin
deriving DecidableEq, Repr

/-- The source of a command. A sensed line's timer is counted with its pin, since L5 is sensed at all times (R106). -/
def Source.of : Instr → Source
  | .instructionByte _ | .deny _ | .eraseAll _ | .pass _ | .writeEnable _ | .writeDisable _ | .statusRead _
  | .read _ | .program _ | .erase4k _ | .erase32k _ | .erase64k _ | .readStreamByte _
  | .programDataByte _ => .host
  | .hostTransactionBegin | .hostTransactionEnd | .supplyRise | .supplyFall | .resetNAssert | .resetNRelease
  | .linePinChange _ _ | .lineSettlingExpiry _ => .pin
  | .readyWaitPoll _ | .engineGranuleErase | .manifestCheckComplete _ _ | .startUpEntries | .deadlineExpiry
  | .getStatus | .setLines | .tightenRegion | .reboot | .openStage | .extend | .extendHashComplete
  | .closeStage | .readMeasurements | .getIdentity | .keyDerivationComplete | .quote | .quoteSigned
  | .openUpdate | .stageUpdate | .stageCheckComplete _ _ | .abortUpdate | .confirmBoot | .setOwner
  | .verifierComputed | .unlock | .comparisonEnd | .lock | .freeze | .recover | .setRecoveryLevel | .wipe
  | .putCredential | .getCredential | .deleteCredential | .listCredentials | .macWithCredential
  | .macComplete | .readLog | .writeTakesEffect => .part

/-! ## Requests and incidents, as the statements name them -/

/-- The request `r` has been dispatched and nothing else of the part's own is in progress (R59, R60). -/
def State.offers (s : State) (r : Request) : Bool :=
  s.alive && decide (s.window.state = .executing) && decide (s.window.dispatched = some r)
    && decide (s.job = .idle) && decide (s.write = none)

/-- `t` presents the completed response with this status and body (R61). -/
def State.answered (s t : State) (status : Status) (body : Bytes) : Prop :=
  t.window = s.window.completed status body

/-- Logging an incident of this kind reaches no threshold now, so no watch entry fires for it (R186). -/
def State.quiet (s : State) (k : IncidentKind) : Bool :=
  !s.log.reaches k

/-- The status that refuses SET_RECOVERY_LEVEL, WIPE, PUT_CREDENTIAL and DELETE_CREDENTIAL as the store stands, after
their values have been checked (R164 checks 2 and 3). -/
def State.changesRefused (s : State) (status : Status) : Prop :=
  (s.cred.frozen = true ∧ status = .frozen) ∨
  (s.cred.frozen = false ∧ s.cred.state = .locked ∧ status = .denied) ∨
  (s.cred.frozen = false ∧ s.cred.state = .lockedOut ∧ status = .lockedOut) ∨
  (s.cred.frozen = false ∧ s.cred.state = .unset ∧ s.store.marker.isSome = true ∧
    status = .refusedState)

/-- The store admits those four requests (R164). -/
def State.changesAdmitted (s : State) : Prop :=
  s.cred.frozen = false ∧
    (s.cred.state = .unlocked ∨ (s.cred.state = .unset ∧ s.store.marker = none))

/-- `t`'s log is `s`'s with one incident recorded (R182). -/
def State.logged (s t : State) (i : Incident) : Prop :=
  t.log = (s.log.append i s.store.bootCount).count i.kind

/-- `t` is where a CONFIRM_BOOT ends from `s`, its steps done and their bits given: the deadline stops, CONFIRMED is
raised, its actions run where the waiting entry is for it, and the request answers unless they restart the part (R94,
R158). -/
def State.confirmedWith (s t : State) (steps : Byte) : Prop :=
  let stopped : State := { s with schedule := { s.schedule with deadline := .stopped } }
  let body := [s.store.slots.committed.code, slotCode s.store.slots.pending, byteOf s.store.slots.trials,
    byteOf s.epoch, s.fuses.revokedBits, steps]
  ((∀ w, s.schedule.waiting = some w → w.trigger ≠ .confirmed) →
    s.onlyChanges t [.schedule, .window] ∧ t.schedule = stopped.schedule ∧ s.answered t .ok body) ∧
  ∀ w u, s.schedule.waiting = some w → w.trigger = .confirmed →
    (runActions stopped w.actions = .restarted u → t = u) ∧
    (runActions stopped w.actions = .on u →
      u.onlyChanges t [.schedule, .window] ∧
      t.schedule = { u.schedule with cursor := u.schedule.cursor + 1 } ∧ u.answered t .ok body)

/-- The bits of the confirm steps performed, in order (R158, section 11.4). -/
def stepBits (slotState epoch revocation : Bool) : Byte :=
  (if slotState then 1 else 0) ||| (if epoch then 2 else 0) ||| (if revocation then 4 else 0)

/-- `t` is where the committed step leads from `s`: its own check, or the check of the first later step that the
rejected slots leave (R78, R79). -/
def State.entersCommitted (s t : State) : Prop :=
  let committed := s.store.slots.committed
  t.write = none ∧
  (committed ∉ s.boot.rejected → t.job = .selectCheck .committed) ∧
  (committed ∈ s.boot.rejected → committed.other ∉ s.boot.rejected → t.job = .selectCheck .other) ∧
  (committed ∈ s.boot.rejected → committed.other ∈ s.boot.rejected → t.job = .selectCheck .recovery)

/-- `t` is where selection begins from `s` with this sample of L5: at recovery, at the pending slot's trial or its
expiry, or at the committed step (R75 to R78). -/
def State.selectionBegins (s t : State) (asserted : Bool) : Prop :=
  (asserted = true → t.job = .selectCheck .recovery ∧ t.write = none) ∧
  (asserted = false →
    (∀ slot, s.store.slots.pending = some slot → 0 < s.store.slots.trials →
      t.write = some (.trialDecrement slot) ∧ t.job = .idle) ∧
    (∀ slot, s.store.slots.pending = some slot → s.store.slots.trials = 0 →
      t.write = some (.pendingCleared slot true) ∧ t.job = .idle) ∧
    (s.store.slots.pending = none → s.entersCommitted t))

/-- The part awaits an instruction byte (R1). -/
def State.awaitsInstruction (s : State) : Bool :=
  s.pins.supply && decide (s.host.phase = .instruction)

/-- The part awaits the address of a transaction with this entry, and these bytes complete it (R1, R6). -/
def State.awaitsAddress (s : State) (e : ClassEntry) (address : Bytes) : Bool :=
  s.pins.supply && decide (s.host.phase = .address) && decide (s.host.entry = some e)
    && decide (address.length = e.addrLen)

/-- The transaction has completed its address with this decision: it holds the bytes, the logical address and the
decision, and stands in the phase that R1 gives after the last address byte. -/
def HostRecord.decided (h : HostRecord) (e : ClassEntry) (address : Bytes) (a : Nat) (d : Decision) : Prop :=
  h.addrBytes = address ∧ h.addr = some a ∧ h.decision = some d ∧
    h.phase = if 1 ≤ e.dummy then .dummy
      else if e.cls = .read ∨ e.cls = .program then .data else .trail

/-- A data byte of a READ with this entry is due, its fill not latched (R34). -/
def State.streaming (s : State) (e : ClassEntry) (st : ReadStream) (a0 : Nat) : Bool :=
  s.pins.supply && decide (s.host.phase = .data) && decide (s.host.entry = some e)
    && decide (e.cls = .read) && s.host.decision.isSome && decide (s.host.stream = some st)
    && decide (s.host.addr = some a0) && !s.host.fillLatched

/-- A data byte of a PROGRAM with this decision at this address is due, the rest of it not discarded (R39, R52). -/
def State.programming (s : State) (d : Decision) (a : Nat) : Bool :=
  s.pins.supply && decide (s.host.phase = .data) && s.host.entry.any (fun e => decide (e.cls = .program))
    && decide (s.host.decision = some d) && decide (s.host.addr = some a) && !s.host.discarding

/-- No transaction forwarded for the host is open at the Flash Port. -/
def OpenTransaction.forwarded : OpenTransaction → Bool
  | .host _ _ _ _ => true
  | .none | .engineStatus _ | .engineRead _ _ _ | .engineErase _ _ _ => false

/-- `row` is the row of a class that the engine uses, among those `admitted`: the one with the lowest instruction
byte, or none where the table lists none (R19, R20). -/
def lowestOf (rows : List ClassRow) (admitted : ClassEntry → Prop) (row : Option ClassRow) : Prop :=
  (∀ r, row = some r → r ∈ rows ∧ admitted r.entry ∧
    ∀ other ∈ rows, admitted other.entry → r.byte.toNat ≤ other.byte.toNat) ∧
  (row = none → ∀ other ∈ rows, ¬admitted other.entry)

/-! ## Invariants -/

/-- While the host does not run, L0 is asserted, the host's transaction is DENY, and nothing of it is open at the
Flash Port (R69, R89, R91, R105). -/
def State.heldHostSafe (s : State) : Prop :=
  s.boot.phase ≠ .running →
    s.lines.l0Asserted = true ∧ (∀ e, s.host.entry = some e → e.cls = .deny)
      ∧ s.port.openTx.forwarded = false

/-- A comparison is in progress, or an effect of one (R165, R171). -/
def State.comparing (s : State) : Bool :=
  match s.job, s.write with
  | .compareOwner _, _ => true
  | .compareRecovery _ _, _ => true
  | _, some .failedTotal => true
  | _, some (.wipe _) => true
  | _, _ => false

/-- Attempts used never exceed 5, and the store is LOCKED_OUT exactly when they are 5 (R165). The other two clauses
carry it: the part does one thing at a time, and no comparison is in progress in LOCKED_OUT. -/
def State.lockoutExact (s : State) : Prop :=
  s.cred.attempts ≤ 5 ∧ (s.cred.state = .lockedOut ↔ s.cred.attempts = 5)
    ∧ (s.job = .idle ∨ s.write = none) ∧ (s.comparing = true → s.cred.state ≠ .lockedOut)

/-- The shape the Measurement Stack keeps (R110): the entries that are not EMPTY are those below the top index, and at
most the top one is OPEN. Once a start has written its entries, entries 0 to 2 are CLOSED; until then the part's one
operation is to write them. -/
def State.stackShaped (s : State) : Prop :=
  s.stack.top ≤ 8 ∧
  (∀ i : Fin 8, (s.stack.entries.get i).tag ≠ .empty ↔ i.val < s.stack.top) ∧
  (∀ i : Fin 8, (s.stack.entries.get i).tag = .opened → i.val + 1 = s.stack.top) ∧
  (s.job = .idle ∨ s.write = none) ∧
  (s.alive = true → s.boot.phase = .completing ∨ s.boot.phase = .running →
    (s.boot.phase = .completing ∧ s.job = .startUpEntries) ∨
      ∀ i : Fin 8, i.val < 3 → (s.stack.entries.get i).tag = .closed)

/-- The ring holds at most 32 entries, numbered one by one up to the sequence counter (R183, R184). -/
def IncidentLog.numbered (l : IncidentLog) : Prop :=
  l.ring.length ≤ 32 ∧ l.ring.length ≤ l.seq.toNat
    ∧ l.ring.map (fun e => e.seq.toNat) = List.range' (l.seq.toNat + 1 - l.ring.length) l.ring.length

/-- Trials never exceed 3 and are 0 whenever no slot is pending (R73). -/
def SlotState.legal (v : SlotState) : Bool :=
  decide (v.trials ≤ 3) && (v.pending.isSome || decide (v.trials = 0))

/-- The slot state is legal, and so is one that a write in progress would give. -/
def State.slotsLegal (s : State) : Prop :=
  s.store.slots.legal = true ∧ ∀ v, s.write = some (.confirmSlot v) → v.legal = true

/-- The part writes the Fuse Block in two fields only, and only blows bits (Fuse Block fields, R152, R155). -/
def Fuses.grownFrom (f g : Fuses) : Prop :=
  (∃ bits, f.epochBits = g.epochBits ||| bits)
    ∧ (g.key0.revoked = true → f.key0.revoked = true) ∧ (g.key1.revoked = true → f.key1.revoked = true)
    ∧ f = { g with epochBits := f.epochBits, key0 := { g.key0 with revoked := f.key0.revoked },
                   key1 := { g.key1 with revoked := f.key1.revoked } }

/-! ## The first law (R24) -/

/-- The live table is one that a manifest check has passed (R23, R24), and the target is not the running slot
(R69). -/
def State.loadedBy (s : State) (b : Booted) : Bool :=
  decide (s.boot.outcome = .booted b)
    && regionsOk s.fuses (if b.running = .r then .recovery else .slot) s.regions.records
    && areasOk s.fuses s.regions.records
    && decide (s.regions.defaultRule ≠ .openAll) && decide (b.target.run ≠ b.running)

/-- The areas of one slot that the host's writes never reach while it runs: its manifest's and those of the
RUNNING-view records (R24). -/
def State.runningAreas (s : State) (slot : Slot) : List (Nat × Nat) :=
  (s.fuses.manifestAddress slot, Config.manifestArea)
    :: (s.regions.records.filter fun r => decide (r.view = .running)).map fun r =>
      (r.physicalBase slot, r.size)

/-- The areas of R24: the running slot's, or the recovery manifest's; and the recovery span. -/
def State.protectedAreas (s : State) (b : Booted) : List (Nat × Nat) :=
  (s.fuses.recoveryBase, s.fuses.recoverySize)
    :: match b.running with
      | .a => s.runningAreas .a
      | .b => s.runningAreas .b
      | .r => [(s.fuses.mr, Config.manifestArea)]

/-- `n` bytes from `p` lie clear of every one of these areas. -/
def clearOf (areas : List (Nat × Nat)) (p n : Nat) : Bool :=
  areas.all fun x => !overlaps p n x.1 x.2

/-- The size of the flash bytes that a forwarded transaction of a class can change from the physical address it is
sent with, and the first of them: a PROGRAM's 256-byte page, an erase's span (R12, R41). -/
def InstrClass.reach : InstrClass → Nat → Option (Nat × Nat)
  | .program, p => some (p - p % 256, 256)
  | .erase4k, p => some (p, 4096)
  | .erase32k, p => some (p, 32768)
  | .erase64k, p => some (p, 65536)
  | .read, _ | .eraseAll, _ | .writeEnable, _ | .writeDisable, _ | .statusRead, _ | .pass, _
  | .deny, _ => none

/-- What is open for the host at the Flash Port is the transaction on the bus: HCS_N is asserted and the decision is
FORWARD, taken at the instruction byte of an unexamined class or after an examined one's address (R2, R9 to R13). The
other clauses carry it. -/
def State.forwardingSound (s : State) : Prop :=
  (s.host.phase ≠ .idle → s.pins.hcsAsserted = true) ∧
  (s.host.phase = .instruction → s.host.decision = none) ∧
  (s.port.openTx.forwarded = true →
    s.host.phase ≠ .idle ∧ s.host.decision = some .forward ∧
    (s.host.phase = .address → ∀ e, s.host.entry = some e → e.cls.addressed = false))

/-- The first law of the part as a state keeps it (R24): where a manifest is loaded it is one that a check passes, and
the PROGRAM or erase that is open for the host reaches no byte of the protected areas. -/
def State.lawful (s : State) : Prop :=
  s.forwardingSound ∧
  ∀ b, s.boot.outcome = .booted b →
    s.loadedBy b = true ∧
    ∀ (byte : Byte) (lanes p : Nat) (last : Option Byte) (e : ClassEntry) (reached : Nat × Nat),
      s.port.openTx = .host byte lanes (some p) last → s.host.entry = some e →
      e.cls.reach p = some reached → clearOf (s.protectedAreas b) reached.1 reached.2 = true

end Sys2Proof.Machine
end

