-- ==== Sys2Proof/Certificates/Slice0/Obligations.lean ====
section
/-! DEFINITION. The statements for the provers, in the order of the chapters. -/

open Sys2Proof Sys2Proof.Machine

/-! ## The step, the queue and the state after reset -/

/-- A step runs the command at the front of the queue on the queue's rest. -/
def Obligations.StepRunsTheFrontCommand : Prop :=
  ∀ (c : Instr) (rest : List Instr) (s : State), s.pending = c :: rest →
    step s = exec c { s with pending := rest }

/-- The queue and the idle step, which are the model's own (assumptions 8 and 18). No command touches the commands
that wait behind it. On an empty queue only time passes: one second of a RUNNING deadline, whose last second
DEADLINE_EXPIRY ends. -/
def Obligations.QueueAndIdleStep : Prop :=
  (∀ (c : Instr) (s t : State), exec c s = .next t → t.pending = s.pending) ∧
  (∀ s : State, s.pending = [] → ∃ t, step s = .next t ∧ s.onlyChanges t [.schedule] ∧
    t.schedule = { s.schedule with deadline := t.schedule.deadline } ∧
    (s.schedule.deadline = .stopped → t.schedule.deadline = .stopped) ∧
    (∀ n, s.alive = true → s.schedule.deadline = .running n →
      t.schedule.deadline = .running (max 1 (n - 1))))

/-- Reset is a factory part whose first COLD_POWER start has begun. The Record Store's factory values and the
volatile start values are the manual's; that the start has just begun, its boot-count write in progress, is assumption
1, and that the fuses hold a usable layout assumption 2. -/
def Obligations.ResetIsAFactoryPartStarting : Prop :=
  State.reset.boot.phase = .selecting ∧ State.reset.boot.cause = .coldPower ∧
  State.reset.boot.outcome = .absent ∧ State.reset.lines.l0Asserted = true ∧
  State.reset.port.owner = .engine ∧ State.reset.port.openTx = .none ∧ State.reset.port.readyPoll = none ∧
  State.reset.classes = [] ∧ State.reset.regions.records = [] ∧
  State.reset.regions.defaultRule = .noAccess ∧ State.reset.flags = 0 ∧ State.reset.stack.top = 0 ∧
  State.reset.session = .closed ∧ State.reset.schedule.deadline = .stopped ∧
  State.reset.cred.state = .unset ∧ State.reset.cred.attempts = 0 ∧
  State.reset.store.slots = { committed := .a, pending := none, trials := 0 } ∧
  State.reset.store.bootCount = 0 ∧ State.reset.store.revertCount = 0 ∧
  State.reset.store.failedTotal = 0 ∧ State.reset.store.verifier = none ∧
  State.reset.store.recoveryLevel = .full ∧ State.reset.store.marker = none ∧
  State.reset.write = some .bootCount ∧ State.reset.fuses.usable = true

/-- The reset state meets every invariant stated below. -/
def Obligations.ResetMeetsTheInvariants : Prop :=
  State.reset.heldHostSafe ∧ State.reset.lockoutExact ∧ State.reset.log.numbered ∧
    State.reset.slotsLegal ∧ State.reset.stackShaped ∧ State.reset.lawful

/-! ## Starts (chapter 4) -/

/-- What a start leaves of the volatile state, whatever it found (R70 and the tables it gathers). -/
def Obligations.StartGivesEveryBlockItsStartValue : Prop :=
  ∀ (s : State) (cause : Cause), let t := s.beginStart cause
    (t.lines.l0Asserted = true ∧
      ∀ i : Fin 4, (t.lines.ctl.get i).role = none ∧
        (t.lines.ctl.get i).driven = some (s.fuses.powerUp.get i)) ∧
    (t.lines.l5.settled = none ∧ t.lines.l5.timer = true) ∧
    (t.port.owner = .engine ∧ t.port.openTx = .none ∧
      t.port.readyPoll = if cause = .coldPower then none else s.port.readyPoll) ∧
    t.host = { phase := if s.pins.hcsAsserted then .abandoned else .idle
               instr := none, entry := none, judgement := none, addrBytes := [], addr := none
               decision := none, fillLatched := false, fillLogged := false, stream := none
               dummyCount := 0, dataCount := 0, discarding := false, breakLogged := false
               driven := none } ∧
    t.classes = [] ∧ t.regions = { defaultRule := .noAccess, records := [] } ∧
    (t.window.state = .idle ∧ t.window.buffer = [] ∧ t.window.header = none ∧
      t.window.frameLength = none ∧ t.window.overrun = 0 ∧ t.window.dispatched = none ∧
      t.window.response = { code := 0, status := .idle, overrun := 0, tag := 0, body := [] }) ∧
    (t.boot.phase = .selecting ∧ t.boot.cause = cause ∧ t.boot.rejected = [] ∧
      t.boot.outcome = .absent ∧ t.boot.sample = none) ∧
    (t.schedule.sequence = [] ∧ t.schedule.cursor = 0 ∧ t.schedule.watch = [] ∧
      t.schedule.deadline = .stopped) ∧
    (t.stack.top = 0 ∧ ∀ i : Fin 8, t.stack.entries.get i =
      { tag := .empty, label := [0, 0, 0, 0], value := List.replicate 32 0, count := 0
        folded := false }) ∧
    t.flags = 0 ∧ (t.quote.counter = 0 ∧ t.quote.startEpoch = none) ∧ t.session = .closed ∧
    (t.cred.state = (if s.store.verifier.isSome then .locked else .unset) ∧ t.cred.attempts = 0 ∧
      t.cred.frozen = false) ∧
    (t.log.ring = (if cause = .coldPower ∨ cause = .coldPin then [] else s.log.ring) ∧
      t.log.seq = (if cause = .coldPower ∨ cause = .coldPin then 0 else s.log.seq) ∧
      ∀ k : Fin 14, t.log.counters.get k = 0 ∧ t.log.thresholds.get k = 0) ∧
    t.fuses = s.fuses ∧ t.store = s.store ∧ t.pins = s.pins ∧ t.pending = s.pending ∧
    t.scratch = [] ∧ t.job = .idle ∧ t.write = some .bootCount

/-- Each event of R68 and R71 that begins a start begins one with its cause; DEADLINE_EXPIRY does so in the last second
of a RUNNING deadline (R103), and with more time left, or STOPPED, changes nothing (assumption 8: how the second's end
and the other events are ordered). RESET_N held: L0 asserted, L1 to L4 without a role at their fuse levels, FCS_N
released and the host's transaction abandoned (R68); that the part's operations and its deadline end there, and that a
supply rise with RESET_N held leaves every other block as it is, is assumption 14. A supply fall: the nonvolatile state
is kept (R141) and the lost state is written as its start values, which is assumption 15. With RESET_N held or the supply
down every step of the part's own, and without the supply every byte of the host's, changes nothing: R68 ends them with
everything else (assumptions 14 and 15). -/
def Obligations.StartsAndTheirPins : Prop :=
  (∀ s : State, s.pins.supply = false → s.pins.resetAsserted = false →
    exec .supplyRise s =
      .next ((s.setPins { s.pins with supply := true, coldPowerDue := false }).beginStart .coldPower)) ∧
  (∀ s : State, s.pins.supply = true → s.pins.resetAsserted = true →
    exec .resetNRelease s =
      .next ((s.setPins { s.pins with resetAsserted := false, coldPowerDue := false }).beginStart
        (if s.pins.coldPowerDue then .coldPower else .coldPin))) ∧
  (∀ s : State, s.offers .reboot = true → exec .reboot s = .next (s.beginStart .warmRequest)) ∧
  (∀ (s : State) (n : Nat), s.alive = true → s.schedule.deadline = .running n → n ≤ 1 →
    ∃ u, exec .deadlineExpiry s = .next (u.beginStart .warmDeadline) ∧ s.onlyChanges u [.log] ∧
      s.logged u
        { kind := .deadlineExpired, instr := 0, region := 0xFF, detail := 0, addr := 0 }) ∧
  (∀ s : State, s.alive = true →
    s.schedule.deadline = .stopped ∨ (∃ n, 2 ≤ n ∧ s.schedule.deadline = .running n) →
    exec .deadlineExpiry s = .next s) ∧
  (∀ s : State, s.pins.supply = true → s.pins.resetAsserted = false →
    ∃ t, exec .resetNAssert s = .next t ∧
      s.onlyChanges t [.pins, .lines, .port, .host, .schedule, .job, .write] ∧
      t.pins = { s.pins with resetAsserted := true } ∧
      t.lines.l0Asserted = true ∧ t.lines.l5 = s.lines.l5 ∧
      (∀ i : Fin 4, (t.lines.ctl.get i).role = none ∧
        (t.lines.ctl.get i).driven = some (s.fuses.powerUp.get i)) ∧
      t.port = { s.port with openTx := .none } ∧
      t.host = { HostRecord.idle with phase := if s.pins.hcsAsserted then .abandoned else .idle } ∧
      t.schedule = { s.schedule with deadline := .stopped } ∧ t.job = .idle ∧ t.write = none) ∧
  (∀ s : State, s.pins.supply = true →
    ∃ t, exec .supplyFall s = .next t ∧
      t.pins = { s.pins with supply := false, coldPowerDue := false } ∧
      t.lines.l0Asserted = true ∧
      (∀ i : Fin 4, (t.lines.ctl.get i).role = none ∧
        (t.lines.ctl.get i).driven = some (s.fuses.powerUp.get i)) ∧
      t.port.openTx = .none ∧
      t.host = { HostRecord.idle with phase := if s.pins.hcsAsserted then .abandoned else .idle } ∧
      t.store = s.store ∧ t.fuses = s.fuses ∧ t.pending = s.pending ∧ t.job = .idle ∧
      t.write = none ∧ t.log.ring = []) ∧
  (∀ s : State, s.pins.supply = false → s.pins.resetAsserted = true →
    ∃ t, exec .supplyRise s = .next t ∧ s.onlyChanges t [.pins, .lines, .port, .host] ∧
      t.pins = { s.pins with supply := true, coldPowerDue := true } ∧
      t.lines.l0Asserted = true ∧ t.lines.l5 = s.lines.l5 ∧
      (∀ i : Fin 4, (t.lines.ctl.get i).role = none ∧
        (t.lines.ctl.get i).driven = some (s.fuses.powerUp.get i)) ∧
      t.port = { s.port with openTx := .none } ∧
      t.host = { HostRecord.idle with phase := if s.pins.hcsAsserted then .abandoned else .idle }) ∧
  (∀ (c : Instr) (s : State), Source.of c = .part → s.alive = false → exec c s = .next s) ∧
  (∀ (c : Instr) (s : State), Source.of c = .host → s.pins.supply = false → exec c s = .next s)

/-- The boot count rises by one in one whole write, and the fuse check follows; where no ready wait is due and L5 has
been sampled already, selection begins (R70 items 5 to 7, R72, R74, R75, R91). Then the slot-state and revert-count
writes of selection, the last of which goes on at the committed step, past it where the committed slot has been rejected
(R73, R74, R76 to R78). -/
def Obligations.WritesOfAStart : Prop :=
  (∀ s : State, s.alive = true → s.write = some .bootCount → s.boot.phase = .selecting →
     ∃ t, exec .writeTakesEffect s = .next t ∧
       t.store = { s.store with bootCount := satInc s.store.bootCount } ∧ t.fuses = s.fuses ∧
       (s.fuses.usable = false →
         t.boot.phase = .halted ∧ t.boot.outcome = .halted ∧ t.port.owner = s.port.owner ∧
         s.onlyChanges t [.store, .boot, .port, .scratch, .job, .write]) ∧
       (∀ p, s.fuses.usable = true → s.port.readyPoll = some p → s.port.openTx = .none →
         s.host.mayForward = false →
         t.job = .startWait ∧ t.port.openTx = .engineStatus (some p) ∧
         s.onlyChanges t [.store, .port, .job, .write]) ∧
       (s.fuses.usable = true → s.port.readyPoll = none → s.boot.sample = none →
         s.onlyChanges t [.store, .write]) ∧
       (∀ asserted, s.fuses.usable = true → s.port.readyPoll = none → s.job = .idle →
         s.boot.sample = some asserted →
         s.selectionBegins t asserted ∧ s.onlyChanges t [.store, .port, .job, .write])) ∧
  ∀ s : State, s.alive = true → s.boot.phase = .selecting →
    (∀ slot, s.write = some (.trialDecrement slot) →
      ∃ t, exec .writeTakesEffect s = .next t ∧
        t.store = { s.store with slots := { s.store.slots with trials := s.store.slots.trials - 1 } } ∧
        t.job = .selectCheck (.pending slot) ∧ s.onlyChanges t [.store, .port, .job, .write]) ∧
    (∀ slot expired, s.write = some (.pendingCleared slot expired) →
      ∃ t, exec .writeTakesEffect s = .next t ∧
        t.store = { s.store with slots := { s.store.slots with pending := none, trials := 0 } } ∧
        t.write = some (.revertCount slot expired) ∧ s.onlyChanges t [.store, .write]) ∧
    (∀ slot expired, s.write = some (.revertCount slot expired) → s.quiet .trialExpired = true →
      ∃ t, exec .writeTakesEffect s = .next t ∧
        t.store = { s.store with revertCount := satInc s.store.revertCount } ∧
        t.flagSet .reverted = true ∧ s.entersCommitted t ∧
        (expired = true → s.logged t
          { kind := .trialExpired, instr := 0, region := 0xFF, detail := 0
            addr := s.fuses.manifestAddress slot }) ∧
        (expired = false → t.log = s.log) ∧
        s.onlyChanges t [.store, .flags, .log, .port, .job, .write])

/-- L5's first settled level decides whether selection goes straight to recovery; otherwise the slot state decides
where it begins (R75 to R78). -/
def Obligations.SelectionBeginsWithTheSample : Prop :=
  ∀ s : State, s.alive = true → s.boot.phase = .selecting → s.lines.l5.settled = none →
    s.lines.l5.timer = true → s.job = .idle → s.write = none →
    ∃ t, exec (.lineSettlingExpiry .l5) s = .next t ∧
      t.boot = { s.boot with sample := some (!s.lines.l5.pinHigh) } ∧
      t.lines = { s.lines with
        l5 := { pinHigh := s.lines.l5.pinHigh, settled := some (!s.lines.l5.pinHigh), timer := false } } ∧
      s.selectionBegins t (!s.lines.l5.pinHigh) ∧
      (s.lines.l5.pinHigh = false → t.flags = s.flags ||| 8) ∧
      (s.lines.l5.pinHigh = true → t.flags = s.flags) ∧
      s.onlyChanges t [.boot, .lines, .flags, .port, .job, .write]

/-- A failed selection check sets MANIFEST_REJECTED, logs its reason, and selection goes on (R76, R78 to R80). -/
def Obligations.RejectedManifestIsRecorded : Prop :=
  ∀ (s : State) (step : SelectStep) (copy content : FlashImage) (reason : VerifyReason) (region : Byte)
    (version : Nat),
    s.alive = true → s.boot.phase = .selecting → s.job = .selectCheck step →
    manifestCheck s.fuses (s.checkInput step) copy content = .fail reason region version →
    s.quiet .manifestRejected = true →
    ∃ t, exec (.manifestCheckComplete copy content) s = .next t ∧
      t.flagSet .manifestRejected = true ∧
      s.logged t
        { kind := .manifestRejected, instr := 0, region := region, detail := reason.code
          addr := (s.checkInput step).address } ∧
      t.store = s.store ∧
      (∀ slot, step = .pending slot →
        slot ∈ t.boot.rejected ∧ t.write = some (.pendingCleared slot false) ∧ t.job = .idle) ∧
      (step = .committed →
        s.store.slots.committed ∈ t.boot.rejected ∧
        (s.store.slots.committed.other ∉ s.boot.rejected → t.job = .selectCheck .other) ∧
        (s.store.slots.committed.other ∈ s.boot.rejected → t.job = .selectCheck .recovery)) ∧
      (step = .other →
        s.store.slots.committed.other ∈ t.boot.rejected ∧ t.job = .selectCheck .recovery) ∧
      (step = .recovery → t.boot.phase = .halted ∧ t.boot.outcome = .halted ∧ t.job = .idle) ∧
      s.onlyChanges t [.flags, .log, .port, .boot, .job, .write, .scratch]

/-- A passing selection check makes the manifest's tables live together: classes, regions, ready-poll entry, lines with
their roles, polarities and levels, thresholds, sequence and watch list; and the checked copy is kept for entry 1 (R69,
R78, R79, R88, R104, R112). That an INPUT line's pin level at the load is the board's last, not the level the part drove,
is assumption 27. A check passes only for a manifest of the kind asked for, under an unrevoked root key,
signed, not below the epoch if it is a SLOT's, and with the tables that R23 and R24 ask for (R83 to R86). -/
def Obligations.PassingManifestTablesLive : Prop :=
  (∀ (s : State) (step : SelectStep) (copy content : FlashImage) (m : Manifest) (bs : Bytes),
    s.alive = true → s.boot.phase = .selecting → s.job = .selectCheck step →
    manifestCheck s.fuses (s.checkInput step) copy content = .pass m bs →
    ∃ t, exec (.manifestCheckComplete copy content) s = .next t ∧
      t.boot.phase = .completing ∧
      (∃ b, t.boot.outcome = .booted b ∧ b.params = m.params ∧ b.running = (s.checkInput step).slot ∧
        (step = .committed → b.verdict = .normal ∧ b.target = s.store.slots.committed.other) ∧
        (step = .other → b.verdict = .fallback ∧ b.target = s.store.slots.committed) ∧
        (step = .recovery → b.verdict = .recovery ∧ b.target = s.store.slots.committed.other) ∧
        (∀ slot, step = .pending slot → b.verdict = .trial ∧ b.target = slot.other)) ∧
      t.classes = m.classes ∧ t.port.readyPoll = pollOf m.classes ∧ t.port.owner = s.port.owner ∧
      t.port.openTx = .none ∧ t.scratch = bs ∧
      t.regions = { defaultRule := m.defaultRule, records := m.records } ∧
      (∀ i : Fin 4,
        let line := t.lines.ctl.get i
        let config := m.lines.get i
        line.role = some config.role ∧ line.polarity = config.polarity ∧
        (config.role = .scheduleOut ∨ config.role = .hostOut →
          line.driven = some (if config.polarity = .activeHigh then config.initialAsserted
            else !config.initialAsserted)) ∧
        (config.role = .input ∨ config.role = .unused → line.driven = none) ∧
        (config.role = .input →
          line.sense = { pinHigh := (s.lines.ctl.get i).sense.pinHigh, settled := none, timer := true })) ∧
      t.lines.l0Asserted = s.lines.l0Asserted ∧ t.lines.l5 = s.lines.l5 ∧
      t.log = { s.log with thresholds := m.thresholds } ∧
      t.schedule = { s.schedule with sequence := m.sequence, cursor := 0, watch := m.watch } ∧
      t.job = .startUpEntries ∧
      s.onlyChanges t [.boot, .classes, .port, .regions, .lines, .log, .schedule, .scratch, .job]) ∧
  ∀ (f : Fuses) (input : CheckInput) (copy content : FlashImage) (m : Manifest) (bs : Bytes),
    manifestCheck f input copy content = .pass m bs →
    m.kind = input.kind ∧
    (∃ key, f.rootKey (byteAt bs 7) = some key ∧ m.params.keyIndex = (byteAt bs 7).toNat ∧
      key.revoked = false ∧ sha256 (slice bs 24 64) = key.hash) ∧
    ecdsaVerify (ofBe (slice bs 24 32)) (ofBe (slice bs 56 32)) (sha256 (bs.take (bs.length - 64)))
      (ofBe (slice bs (bs.length - 64) 32)) (ofBe (slice bs (bs.length - 64 + 32) 32)) = true ∧
    (input.kind = .slot → epochValue f.epochBits ≤ m.params.securityVersion) ∧
    classesOk f m.classes = true ∧ regionsOk f input.kind m.records = true ∧
    areasOk f m.records = true ∧ m.defaultRule ≠ .openAll

/-- The start-up entries, the start epoch and the verdict's flag, all read together; then VERIFIED is raised, its
actions run where the waiting entry is for it, and the host is released; or a wipe marker's erasing begins first (R89,
R90, R94, R111 to R113, R129). -/
def Obligations.StartUpEntriesAndRelease : Prop :=
  ∀ (s : State) (b : Booted), s.alive = true → s.boot.phase = .completing → s.job = .startUpEntries →
    s.boot.outcome = .booted b →
    ∃ entered : State, s.onlyChanges entered [.stack, .quote, .flags] ∧ entered.stack.top = 3 ∧
      (entered.stack.entries.get 0 =
        { tag := .closed, label := [0x50, 0x41, 0x52, 0x54]
          value := sha256 (s.fuses.serial ++
            [byteOf s.epoch, byteOf b.params.keyIndex, b.verdict.code, b.running.code])
          count := 0, folded := false }) ∧
      (entered.stack.entries.get 1 =
        { tag := .closed, label := [0x4D, 0x41, 0x4E, 0x49], value := sha256 s.scratch, count := 0
          folded := false }) ∧
      (entered.stack.entries.get 2 =
        { tag := .closed, label := [0x49, 0x4D, 0x47, 0x53]
          value := b.params.digests.foldl (fun v d => sha256 (v ++ d)) (List.replicate 32 0)
          count := BitVec.ofNat 16 b.params.digests.length, folded := false }) ∧
      (∀ i : Fin 8, 3 ≤ i.val → (entered.stack.entries.get i).tag = .empty) ∧
      entered.quote = { s.quote with startEpoch := some s.epoch } ∧
      entered.flags = s.flags ||| (match b.verdict with
        | .normal => 0 | .trial => 1 | .fallback => 2 | .recovery => 4) ∧
      (s.store.marker = none → (∀ w, s.schedule.waiting = some w → w.trigger ≠ .verified) →
        ∃ t, exec .startUpEntries s = .next t ∧ entered.onlyChanges t [.boot, .lines, .port, .scratch, .job] ∧
          t.boot = { s.boot with phase := .running } ∧ t.lines = { s.lines with l0Asserted := false } ∧
          t.port = { s.port with owner := .hostPass, openTx := .none } ∧ t.scratch = [] ∧ t.job = .idle) ∧
      (∀ w u, s.store.marker = none → s.schedule.waiting = some w → w.trigger = .verified →
        (runActions { entered with job := .idle } w.actions = .restarted u →
          exec .startUpEntries s = .next u) ∧
        (runActions { entered with job := .idle } w.actions = .on u →
          ∃ t, exec .startUpEntries s = .next t ∧
            u.onlyChanges t [.schedule, .boot, .lines, .port, .scratch] ∧
            t.schedule = { u.schedule with cursor := u.schedule.cursor + 1 } ∧
            t.boot = { u.boot with phase := .running } ∧ t.lines = { u.lines with l0Asserted := false } ∧
            t.port = { u.port with owner := .hostPass, openTx := .none } ∧ t.scratch = [])) ∧
      (s.store.marker.isSome = true →
        ∃ t, exec .startUpEntries s = .next t ∧ entered.onlyChanges t [.port, .job] ∧
          t.job = .granuleWait ∧ t.port.owner = s.port.owner ∧
          (s.port.openTx = .none → s.host.mayForward = false →
            t.port = { s.port with openTx := .engineStatus (pollOf s.classes) }))

/-! ## Sensed lines, SET_LINES (chapter 5) -/

/-- A pin change starts the settling timer afresh, or stops it where the pin level equals the settled level, and
changes nothing else of its line; a pin event to the level already held changes nothing. When the timer runs out the
settled level becomes the pin level; the first settled level of a line raises no trigger, and a later one raises LINE
to the watch list, of L1 to L4 and of L5 alike (R106, R107). L5 is sensed at all times (R106): with RESET_N held it
settles too, and that nothing follows from its level then is assumption 14. -/
def Obligations.SensedLinesSettle : Prop :=
  (∀ (s : State) (line : Line) (i : Fin 4) (high : Bool),
    s.alive = true → lineIndex line = some i → (s.lines.ctl.get i).role = some .input →
    ∃ t, exec (.linePinChange line high) s = .next t ∧ s.onlyChanges t [.lines] ∧
      t.lines.l5 = s.lines.l5 ∧ t.lines.l0Asserted = s.lines.l0Asserted ∧
      (∀ j, j ≠ i → t.lines.ctl.get j = s.lines.ctl.get j) ∧
      t.lines.ctl.get i = { s.lines.ctl.get i with sense :=
        { pinHigh := high, settled := (s.lines.ctl.get i).sense.settled
          timer := (t.lines.ctl.get i).sense.timer } } ∧
      ((s.lines.ctl.get i).sense.pinHigh = high → t = s) ∧
      ((s.lines.ctl.get i).sense.pinHigh ≠ high →
        ((t.lines.ctl.get i).sense.timer = false ↔
          (s.lines.ctl.get i).sense.settled = some ((s.lines.ctl.get i).polarity.level high)))) ∧
  (∀ (s : State) (high : Bool), s.pins.supply = true →
    ∃ t, exec (.linePinChange .l5 high) s = .next t ∧ s.onlyChanges t [.lines] ∧
      t.lines.ctl = s.lines.ctl ∧ t.lines.l0Asserted = s.lines.l0Asserted ∧
      t.lines.l5.settled = s.lines.l5.settled ∧ t.lines.l5.pinHigh = high ∧
      (s.lines.l5.pinHigh = high → t = s) ∧
      (s.lines.l5.pinHigh ≠ high →
        (t.lines.l5.timer = false ↔ s.lines.l5.settled = some (!high)))) ∧
  (∀ (s : State) (line : Line) (i : Fin 4),
    s.alive = true → lineIndex line = some i → (s.lines.ctl.get i).role = some .input →
    (s.lines.ctl.get i).sense.timer = true →
    let level := (s.lines.ctl.get i).polarity.level (s.lines.ctl.get i).sense.pinHigh
    ∃ u t, exec (.lineSettlingExpiry line) s = .next t ∧ s.onlyChanges u [.lines] ∧
      u.lines.l5 = s.lines.l5 ∧ u.lines.l0Asserted = s.lines.l0Asserted ∧
      (∀ j, j ≠ i → u.lines.ctl.get j = s.lines.ctl.get j) ∧
      u.lines.ctl.get i = { s.lines.ctl.get i with sense :=
        { pinHigh := (s.lines.ctl.get i).sense.pinHigh, settled := some level, timer := false } } ∧
      ((s.lines.ctl.get i).sense.settled = none → t = u) ∧
      ((s.lines.ctl.get i).sense.settled ≠ none → t = (fireWatch (.line line level) u).state)) ∧
  (∀ s : State, s.alive = true → s.lines.l5.timer = true → s.lines.l5.settled ≠ none →
    ∃ u, exec (.lineSettlingExpiry .l5) s =
        .next (fireWatch (.line .l5 (!s.lines.l5.pinHigh)) u).state ∧
      s.onlyChanges u [.lines] ∧
      u.lines = { s.lines with
        l5 := { pinHigh := s.lines.l5.pinHigh, settled := some (!s.lines.l5.pinHigh), timer := false } }) ∧
  ∀ s : State, s.pins.supply = true → s.pins.resetAsserted = true → s.lines.l5.timer = true →
    ∃ t, exec (.lineSettlingExpiry .l5) s = .next t ∧ s.onlyChanges t [.lines] ∧
      t.lines = { s.lines with
        l5 := { pinHigh := s.lines.l5.pinHigh, settled := some (!s.lines.l5.pinHigh), timer := false } }

/-- The actions' effects: LINE_SET drives a SCHEDULE_OUT line through its polarity and no other line (R99); TIGHTEN
raises a record's level where the named one is stricter (R47); DEADLINE_START and DEADLINE_STOP set the deadline (R102);
REBOOT begins a WARM_SCHEDULE start (R101). Actions run in their listed order, and those after a REBOOT do not run
(R95, R98). -/
def Obligations.ActionsTakeEffect : Prop :=
  (∀ (s : State) (line : Line) (asserted : Bool),
    ∃ t, runAction s (.lineSet line asserted) = .on t ∧ s.onlyChanges t [.lines] ∧
      t.lines.l0Asserted = s.lines.l0Asserted ∧ t.lines.l5 = s.lines.l5 ∧
      ∀ i : Fin 4, t.lines.ctl.get i =
        if lineIndex line = some i ∧ (s.lines.ctl.get i).role = some .scheduleOut then
          { s.lines.ctl.get i with
            driven := some (if (s.lines.ctl.get i).polarity = .activeHigh then asserted else !asserted) }
        else s.lines.ctl.get i) ∧
  (∀ (s : State) (i : Nat) (level : Tightening),
    ∃ t, runAction s (.tighten i level) = .on t ∧ s.onlyChanges t [.regions] ∧
      t.regions.defaultRule = s.regions.defaultRule ∧
      t.regions.records.length = s.regions.records.length ∧
      ∀ (j : Nat) (r : RegionRecord), s.regions.records[j]? = some r →
        t.regions.records[j]? = some
          (if j = i ∧ r.tight.rank < level.rank then { r with tight := level } else r)) ∧
  (∀ (s : State) (n : Nat), ∃ t, runAction s (.deadlineStart n) = .on t ∧ s.onlyChanges t [.schedule] ∧
    t.schedule = { s.schedule with deadline := .running n }) ∧
  (∀ s : State, ∃ t, runAction s .deadlineStop = .on t ∧ s.onlyChanges t [.schedule] ∧
    t.schedule = { s.schedule with deadline := .stopped }) ∧
  (∀ s : State, runAction s .reboot = .restarted (s.beginStart .warmSchedule)) ∧
  (∀ (s : State) (before after : List Action),
    runActions s (before ++ after) =
      (match runActions s before with
        | .on t => runActions t after
        | .restarted t => .restarted t)) ∧
  (∀ (s : State) (a : Action), runActions s [a] = runAction s a) ∧
  (∀ (s : State) (actions : List Action), Action.reboot ∉ actions →
    ∃ t, runActions s actions = .on t ∧ s.onlyChanges t [.lines, .cred, .regions, .schedule] ∧
      t.schedule = { s.schedule with deadline := t.schedule.deadline }) ∧
  (∀ (s : State) (actions : List Action), Action.reboot ∈ actions →
    ∃ u, runActions s actions = .restarted (u.beginStart .warmSchedule) ∧
      s.onlyChanges u [.lines, .cred, .regions, .schedule])

/-- The sequence: the waiting entry is the one at the cursor, none past the last or at END; a trigger that it names
fires it and then advances the cursor, and any other is discarded (R94, R95). The watch list: every entry an arriving
trigger matches fires in ascending index, a ONCE entry only while its mark is clear; each that fires sets its mark and
then runs its actions; a REBOOT ends the rest; and afterwards exactly the entries that fired have gained their mark
(R96, R97). -/
def Obligations.SequenceAndWatchListFire : Prop :=
  (∀ (c : Schedule) (e : SeqEntry),
    c.waiting = some e ↔ c.sequence[c.cursor]? = some e ∧ e.trigger ≠ .endMark) ∧
  (∀ (trigger : SeqTrigger) (s : State),
    (∀ e, s.schedule.waiting = some e → e.trigger ≠ trigger) → offerSequence trigger s = .on s) ∧
  (∀ (trigger : SeqTrigger) (s u : State) (e : SeqEntry), s.schedule.waiting = some e →
    e.trigger = trigger →
    (runActions s e.actions = .restarted u → offerSequence trigger s = .restarted u) ∧
    (runActions s e.actions = .on u →
      ∃ t, offerSequence trigger s = .on t ∧ u.onlyChanges t [.schedule] ∧
        t.schedule = { u.schedule with cursor := s.schedule.cursor + 1 })) ∧
  (∀ (trigger : WatchTrigger) (s : State),
    fireWatch trigger s =
      (List.range s.schedule.watch.length).foldl (init := Flow.on s) fun flow i =>
        match flow, s.schedule.watch[i]? with
        | .on t, some e =>
          if e.trigger = trigger ∧ (e.mode = .every ∨ e.fired = false) then
            runActions { t with schedule := { t.schedule with
              watch := t.schedule.watch.set i { e with fired := true } } } e.actions
          else .on t
        | flow, _ => flow) ∧
  (∀ (trigger : WatchTrigger) (s t : State), fireWatch trigger s = .on t →
    t.schedule.sequence = s.schedule.sequence ∧ t.schedule.cursor = s.schedule.cursor ∧
    t.schedule.watch = s.schedule.watch.map fun e =>
      if e.trigger = trigger then { e with fired := true } else e)

/-- SET_LINES drives the HOST_OUT lines of its mask and no other, and reports all six levels (R108). -/
def Obligations.SetLinesDrivesHostOutLines : Prop :=
  ∀ s : State, s.offers .setLines = true →
    let mask := byteAt s.window.requestBody 0
    let levels := byteAt s.window.requestBody 1
    ∃ t, exec .setLines s = .next t ∧ s.onlyChanges t [.lines, .window] ∧
      t.lines.l5 = s.lines.l5 ∧ t.lines.l0Asserted = s.lines.l0Asserted ∧
      (∀ i : Fin 4,
        if mask.getLsbD (i.val + 1) ∧ (s.lines.ctl.get i).role = some .hostOut then
          t.lines.ctl.get i = { s.lines.ctl.get i with
            driven := some ((s.lines.ctl.get i).polarity.electrical (levels.getLsbD (i.val + 1))) }
        else t.lines.ctl.get i = s.lines.ctl.get i) ∧
      ∃ applied : Byte, s.answered t .ok
          [applied, (if s.lines.l0Asserted then 1 else 0), (t.lines.ctl.get 0).report,
           (t.lines.ctl.get 1).report, (t.lines.ctl.get 2).report, (t.lines.ctl.get 3).report,
           t.lines.l5.report] ∧
        applied.getLsbD 0 = false ∧ applied.getLsbD 5 = false ∧ applied.getLsbD 6 = false ∧
        applied.getLsbD 7 = false ∧
        ∀ i : Fin 4, applied.getLsbD (i.val + 1) =
          (mask.getLsbD (i.val + 1) && decide ((s.lines.ctl.get i).role = some .hostOut))

/-! ## The Host Port (chapter 1) -/

/-- HCS_N's two edges: a new record, and the record's end with FCS_N released; an engine transaction that waited then
begins (R1, R2, R17), also where it waited for a transaction that might still have been forwarded (assumption 25).
While RESET_N is held a transaction begins ABANDONED (R68, R21). The
three things that happen together at the instruction byte of an addressed class; the judgement is the port's owner at
that moment (R1, R3). -/
def Obligations.TransactionBeginsIsJudgedAndEnds : Prop :=
  (∀ s : State, s.alive = true → s.pins.hcsAsserted = false →
    ∃ t, exec .hostTransactionBegin s = .next t ∧ s.onlyChanges t [.pins, .host] ∧
      t.pins = { s.pins with hcsAsserted := true } ∧
      t.host = { HostRecord.idle with phase := .instruction }) ∧
  (∀ s : State, s.pins.supply = true → s.pins.resetAsserted = true → s.pins.hcsAsserted = false →
    ∃ t, exec .hostTransactionBegin s = .next t ∧ s.onlyChanges t [.pins, .host] ∧
      t.pins = { s.pins with hcsAsserted := true } ∧
      t.host = { HostRecord.idle with phase := .abandoned }) ∧
  (∀ s : State, s.pins.hcsAsserted = true →
    ∃ t, exec .hostTransactionEnd s = .next t ∧ s.onlyChanges t [.pins, .host, .port] ∧
      t.pins = { s.pins with hcsAsserted := false } ∧ t.host.phase = .idle ∧ t.host.stream = none ∧
      t.host.fillLatched = false ∧ t.port.owner = s.port.owner ∧
      t.port.readyPoll = s.port.readyPoll ∧ t.port.openTx.forwarded = false ∧
      (s.port.openTx.forwarded = true ∨ s.port.openTx = .none →
        (s.job = .stageWait ∨ s.job = .granuleWait →
          t.port.openTx = .engineStatus (pollOf s.classes)) ∧
        (s.job = .idle → t.port.openTx = .none)) ∧
      (s.port.openTx.forwarded = false → s.port.openTx ≠ .none → t.port = s.port)) ∧
  ∀ (s : State) (b : Byte), s.awaitsInstruction = true → (s.classify b).cls.addressed = true →
    ∃ t, exec (.instructionByte b) s = .next t ∧ s.onlyChanges t [.host] ∧
      t.host = { s.host with
        instr := some b, entry := some (s.classify b), judgement := some s.port.owner
        phase := t.host.phase } ∧
      ((s.classify b).addrLen = 3 ∨ (s.classify b).addrLen = 4 → t.host.phase = .address)

/-- The classes that no address decides. Until the host runs every instruction byte is DENY (R4, R89); under either
judgement a DENY byte gives fill and INSTR_DENIED (R7), and an ERASE_ALL byte is refused with WRITE_REFUSED (R8). The
four others are forwarded unexamined under HOST_PASS, with the instruction byte and lane width (R9, R10), and absorbed
or answered busy under ENGINE with PORT_HELD (R15, R16). -/
def Obligations.InstructionBytesByClass : Prop :=
  (∀ (s : State) (b : Byte), s.boot.phase ≠ .running →
    s.classify b = { cls := .deny, addrLen := 0, dummy := 0, lanes := 1 }) ∧
  (∀ (s : State) (b : Byte), s.awaitsInstruction = true → (s.classify b).cls = .deny →
    s.quiet .instrDenied = true →
    ∃ t, exec (.deny b) s = .next t ∧ s.onlyChanges t [.host, .log] ∧
      t.host.decision = some .fill ∧ t.host.instr = some b ∧
      t.host.judgement = some s.port.owner ∧
      s.logged t { kind := .instrDenied, instr := b, region := 0xFF, detail := 0, addr := 0 }) ∧
  (∀ (s : State) (b : Byte), s.awaitsInstruction = true → (s.classify b).cls = .eraseAll →
    s.quiet .writeRefused = true →
    ∃ t, exec (.eraseAll b) s = .next t ∧ s.onlyChanges t [.host, .log] ∧
      t.host.decision = some .refuse ∧ t.host.instr = some b ∧
      s.logged t { kind := .writeRefused, instr := b, region := 0xFF, detail := 0x14, addr := 0 }) ∧
  ∀ (command : Byte → Instr) (k : InstrClass) (held : Decision),
    (command, k, held) ∈ [(Instr.pass, InstrClass.pass, Decision.absorb),
      (Instr.writeEnable, InstrClass.writeEnable, Decision.absorb),
      (Instr.writeDisable, InstrClass.writeDisable, Decision.absorb),
      (Instr.statusRead, InstrClass.statusRead, Decision.synthStatus)] →
    ∀ (s : State) (b : Byte), s.awaitsInstruction = true → (s.classify b).cls = k →
      (s.port.owner = .hostPass →
        ∃ t, exec (command b) s = .next t ∧ s.onlyChanges t [.host, .port] ∧
          t.host.decision = some .forward ∧ t.port.owner = .hostPass ∧
          t.port.readyPoll = s.port.readyPoll ∧
          t.port.openTx = .host b (s.classify b).lanes none none) ∧
      (s.port.owner = .engine → s.quiet .portHeld = true →
        ∃ t, exec (command b) s = .next t ∧ s.onlyChanges t [.host, .log] ∧
          t.host.decision = some held ∧
          s.logged t { kind := .portHeld, instr := b, region := 0xFF, detail := k.code, addr := 0 })

/-- The decision at a READ's address, line by line, with the phase that follows the address, DUMMY or DATA (R1), and the
context of the stream that begins (R6, R14, R15, R33, R37). -/
def Obligations.ReadDecision : Prop :=
  ∀ (s : State) (e : ClassEntry) (address : Bytes), s.awaitsAddress e address = true → e.cls = .read →
    let a := ofBe address % s.flashSize
    let seg := s.lookup a
    ∃ t, exec (.read address) s = .next t ∧
      (s.isMailbox seg = true →
        s.onlyChanges t [.host] ∧ t.host.decided e address a .window ∧
        t.host.stream = some { index := 0, segment := seg, mode := .window, previous := none } ∧
        (t.host.fillLatched = true ↔ s.windowOffset a < 4096)) ∧
      (s.isMailbox seg = false → s.host.judgement = some .engine → s.quiet .portHeld = true →
        s.onlyChanges t [.host, .log] ∧ t.host.decided e address a .fill ∧ t.host.fillLatched = true ∧
        s.logged t { kind := .portHeld, instr := s.host.instr.getD 0, region := 0xFF, detail := 1
                     addr := a }) ∧
      (s.isMailbox seg = false → s.host.judgement = some .hostPass → s.effectiveRule seg = .noAccess →
        s.host.fillLogged = false → s.quiet .readFilled = true →
        s.onlyChanges t [.host, .log] ∧ t.host.decided e address a .fill ∧ t.host.fillLatched = true ∧
        s.logged t { kind := .readFilled, instr := s.host.instr.getD 0, region := seg.region
                     detail := 3, addr := a }) ∧
      (s.isMailbox seg = false → s.host.judgement = some .hostPass → s.effectiveRule seg ≠ .noAccess →
        s.translate seg a < 2 ^ (8 * e.addrLen) →
        s.onlyChanges t [.host, .port] ∧ t.host.decided e address a .forward ∧
        t.host.fillLatched = false ∧ t.port.owner = s.port.owner ∧
        t.host.stream =
          some { index := 0, segment := seg, mode := .flash, previous := none } ∧
        t.port.openTx = .host (s.host.instr.getD 0) e.lanes (some (s.translate seg a)) none) ∧
      (s.isMailbox seg = false → s.host.judgement = some .hostPass → s.effectiveRule seg ≠ .noAccess →
        2 ^ (8 * e.addrLen) ≤ s.translate seg a → s.host.fillLogged = false →
        s.quiet .boundaryFill = true →
        s.onlyChanges t [.host, .log] ∧ t.host.decided e address a .fill ∧ t.host.fillLatched = true ∧
        s.logged t { kind := .boundaryFill, instr := s.host.instr.getD 0, region := seg.region
                     detail := 0x13, addr := a })

/-- The decision at a PROGRAM's address, line by line, with the phase that follows the address (R1, R6, R14, R15, R38,
R40). -/
def Obligations.ProgramDecision : Prop :=
  ∀ (s : State) (e : ClassEntry) (address : Bytes),
    s.awaitsAddress e address = true → e.cls = .program →
    let a := ofBe address % s.flashSize
    let seg := s.lookup a
    ∃ t, exec (.program address) s = .next t ∧
      (s.isMailbox seg = true → s.windowOffset a < 4096 →
        s.onlyChanges t [.host] ∧ t.host.decided e address a .window) ∧
      (s.isMailbox seg = true → 4096 ≤ s.windowOffset a → s.quiet .writeRefused = true →
        s.onlyChanges t [.host, .log] ∧ t.host.decided e address a .window ∧ t.host.discarding = true ∧
        s.logged t { kind := .writeRefused, instr := s.host.instr.getD 0, region := seg.region
                     detail := 0x12, addr := a }) ∧
      (s.isMailbox seg = false → s.host.judgement = some .engine → s.quiet .portHeld = true →
        s.onlyChanges t [.host, .log] ∧ t.host.decided e address a .absorb ∧
        s.logged t { kind := .portHeld, instr := s.host.instr.getD 0, region := 0xFF, detail := 2
                     addr := a }) ∧
      (s.isMailbox seg = false → s.host.judgement = some .hostPass → s.effectiveRule seg = .openAll →
        s.translate seg a < 2 ^ (8 * e.addrLen) →
        s.onlyChanges t [.host, .port] ∧ t.host.decided e address a .forward ∧
        t.port.openTx = .host (s.host.instr.getD 0) e.lanes (some (s.translate seg a)) none) ∧
      (s.isMailbox seg = false → s.host.judgement = some .hostPass → s.effectiveRule seg = .openAll →
        2 ^ (8 * e.addrLen) ≤ s.translate seg a → s.quiet .writeRefused = true →
        s.onlyChanges t [.host, .log] ∧ t.host.decided e address a .refuse ∧
        s.logged t { kind := .writeRefused, instr := s.host.instr.getD 0, region := seg.region
                     detail := 0x13, addr := a }) ∧
      (s.isMailbox seg = false → s.host.judgement = some .hostPass → s.effectiveRule seg ≠ .openAll →
        s.quiet .writeRefused = true →
        s.onlyChanges t [.host, .log] ∧ t.host.decided e address a .refuse ∧
        s.logged t { kind := .writeRefused, instr := s.host.instr.getD 0, region := seg.region
                     detail := (s.effectiveRule seg).code, addr := a })

/-- The decision at an erase's address for each of the three sizes, with the phase that follows the address, DUMMY or
TRAIL (R1, R6, R13 to R15, R41 to R44). An ERASE_4K of the
response granule changes nothing; one of the request granule acts by the mailbox state: nothing in IDLE, the partial
frame discarded in ASSEMBLING, IDLE after DONE, and an overrun in EXECUTING (R42, R58, R62). -/
def Obligations.EraseDecision : Prop :=
  (∀ (command : Bytes → Instr) (k : InstrClass) (size : Nat),
    (command, k, size) ∈ [(Instr.erase4k, InstrClass.erase4k, 4096),
      (Instr.erase32k, InstrClass.erase32k, 32768), (Instr.erase64k, InstrClass.erase64k, 65536)] →
    ∀ (s : State) (e : ClassEntry) (address : Bytes), s.awaitsAddress e address = true → e.cls = k →
    let a := ofBe address % s.flashSize
    let seg := s.lookup a
    let s0 := a - a % size
    ∃ t, exec (command address) s = .next t ∧
      (k = .erase4k → s.isMailbox seg = true → 4096 ≤ s.windowOffset a →
        s.onlyChanges t [.host] ∧ t.host.decided e address a .window) ∧
      (k ≠ .erase4k ∨ s.isMailbox seg = false → s.host.judgement = some .engine →
        s.quiet .portHeld = true →
        s.onlyChanges t [.host, .log] ∧ t.host.decided e address a .absorb ∧
        s.logged t { kind := .portHeld, instr := s.host.instr.getD 0, region := 0xFF
                     detail := k.code, addr := a }) ∧
      (k ≠ .erase4k ∨ s.isMailbox seg = false → s.host.judgement = some .hostPass →
        s.lookup (s0 + size - 1) = s.lookup s0 → s.effectiveRule (s.lookup s0) = .openAll →
        s.translate (s.lookup s0) s0 % size = 0 →
        s.translate (s.lookup s0) s0 < 2 ^ (8 * e.addrLen) →
        s.onlyChanges t [.host, .port] ∧ t.host.decided e address a .forward ∧
        t.port.openTx =
          .host (s.host.instr.getD 0) e.lanes (some (s.translate (s.lookup s0) s0)) none) ∧
      (∀ detail : Byte, k ≠ .erase4k ∨ s.isMailbox seg = false → s.host.judgement = some .hostPass →
        (if s.lookup (s0 + size - 1) ≠ s.lookup s0 then detail = 0x10
         else if s.effectiveRule (s.lookup s0) ≠ .openAll then
           detail = (s.effectiveRule (s.lookup s0)).code
         else if s.translate (s.lookup s0) s0 % size ≠ 0 then detail = 0x11
         else 2 ^ (8 * e.addrLen) ≤ s.translate (s.lookup s0) s0 ∧ detail = 0x13) →
        s.quiet .writeRefused = true →
        s.onlyChanges t [.host, .log] ∧ t.host.decided e address a .refuse ∧
        s.logged t { kind := .writeRefused, instr := s.host.instr.getD 0, region := seg.region
                     detail := detail, addr := a })) ∧
  ∀ (s : State) (e : ClassEntry) (address : Bytes), s.awaitsAddress e address = true → e.cls = .erase4k →
    let a := ofBe address % s.flashSize
    s.isMailbox (s.lookup a) = true → s.windowOffset a < 4096 →
    ∃ t, exec (.erase4k address) s = .next t ∧
      (s.window.state ≠ .executing → t.host.decided e address a .window) ∧
      (s.window.state = .idle → s.onlyChanges t [.host]) ∧
      (s.window.state = .assembling →
        s.onlyChanges t [.host, .window] ∧ t.window =
          { s.window with state := .idle, buffer := [], header := none, frameLength := none }) ∧
      (s.window.state = .done →
        s.onlyChanges t [.host, .window] ∧ t.window = { s.window with state := .idle }) ∧
      (∀ m, s.window.state = .executing → s.mailbox = some m → s.quiet .requestOverrun = true →
        s.onlyChanges t [.host, .window, .log] ∧ t.host.decided e address a .window ∧
        t.window = { s.window with overrun := satInc s.window.overrun } ∧
        s.logged t { kind := .requestOverrun, instr := s.host.instr.getD 0, region := byteOf m.1
                     detail := (s.window.header.map (·.code)).getD 0, addr := a })

/-- A byte of an open read stream within its segment is the flash's while the rule allows it and the entry carries its
physical address; at the first byte that finds NO_ACCESS, or that physical 0x1000000 keeps from a 3-byte entry, the
forwarded read ends and fill is latched (R11, R14, R34). -/
def Obligations.ReadStreamWithinASegment : Prop :=
  ∀ (s : State) (e : ClassEntry) (st : ReadStream) (a0 : Nat) (flash : Byte),
    s.streaming e st a0 = true → st.mode = .flash →
    let a := (a0 + st.index) % s.flashSize
    let p := match st.previous with
      | none => s.translate st.segment a
      | some q => (q + 1) % s.flashSize
    s.leavesSegment st a = false →
    (s.effectiveRule st.segment ≠ .noAccess → p < 2 ^ (8 * e.addrLen) →
      ∃ t, exec (.readStreamByte flash) s = .next t ∧ s.onlyChanges t [.host] ∧
        t.host.driven = some flash ∧ t.host.fillLatched = false ∧
        t.host.stream = some { st with index := st.index + 1, previous := some p }) ∧
    (∀ (k : IncidentKind) (detail : Byte),
      (if s.effectiveRule st.segment = .noAccess then k = .readFilled ∧ detail = 3
       else 2 ^ (8 * e.addrLen) ≤ p ∧ k = .boundaryFill ∧ detail = 0x13) →
      s.host.fillLogged = false → s.quiet k = true →
      ∃ t, exec (.readStreamByte flash) s = .next t ∧ s.onlyChanges t [.host, .port, .log] ∧
        t.host.driven = some 0xFF ∧ t.host.fillLatched = true ∧ t.host.fillLogged = true ∧
        t.port.openTx.forwarded = false ∧ t.port.owner = s.port.owner ∧
        s.logged t { kind := k, instr := s.host.instr.getD 0
                     region := st.segment.region, detail := detail, addr := a })

/-- A byte that enters a new segment goes on only where the window is not entered, the rule is readable, the
physical bytes follow and the entry carries the address; the first condition that fails latches fill (R35). -/
def Obligations.ReadStreamEntersASegment : Prop :=
  ∀ (s : State) (e : ClassEntry) (st : ReadStream) (a0 : Nat) (flash : Byte),
    s.streaming e st a0 = true → st.mode = .flash →
    let a := (a0 + st.index) % s.flashSize
    let seg := s.lookup a
    s.leavesSegment st a = true →
    ∃ t, exec (.readStreamByte flash) s = .next t ∧
      (s.isMailbox seg = false → s.effectiveRule seg ≠ .noAccess →
        (st.previous.map fun q => (q + 1) % s.flashSize) = some (s.translate seg a) →
        s.translate seg a < 2 ^ (8 * e.addrLen) →
        s.onlyChanges t [.host] ∧ t.host.driven = some flash ∧
        t.host.stream = some { index := st.index + 1, segment := seg, mode := .flash
                               previous := some (s.translate seg a) }) ∧
      (∀ (k : IncidentKind) (detail : Byte),
        (if s.isMailbox seg = true then k = .boundaryFill ∧ detail = 0x21
         else if s.effectiveRule seg = .noAccess then k = .readFilled ∧ detail = 3
         else if (st.previous.map fun q => (q + 1) % s.flashSize) ≠ some (s.translate seg a) then
           k = .boundaryFill ∧ detail = 0x20
         else 2 ^ (8 * e.addrLen) ≤ s.translate seg a ∧ k = .boundaryFill ∧ detail = 0x13) →
        s.host.fillLogged = false → s.quiet k = true →
        s.onlyChanges t [.host, .port, .log] ∧ t.host.driven = some 0xFF ∧
        t.host.fillLatched = true ∧ t.port.openTx.forwarded = false ∧
        s.logged t { kind := k, instr := s.host.instr.getD 0, region := seg.region
                     detail := detail, addr := a })

/-- A latched stream drives fill and logs nothing (R36). A response-area stream drives the presented frame's bytes, and
where it leaves the window fill is latched with WINDOW_LEFT (R37, R64). A DENY transaction and a held PASS drive fill in
every phase (R7, R15); an ENGINE status read drives the busy bit alone in its dummy and data phases, and a forwarded one
the flash's byte (R10, R16). A READ's dummy bytes are counted and end the dummy phase (R1). In TRAIL and in ABANDONED
every byte the host reads is fill (R1, R21). That READ_STREAM_BYTE carries the read bytes of every class and phase,
dummy bytes among them, is assumption 11. -/
def Obligations.BytesDrivenToTheHost : Prop :=
  (∀ (s : State) (e : ClassEntry) (st : ReadStream) (flash : Byte),
    s.pins.supply = true → s.host.phase = .data → s.host.entry = some e → e.cls = .read →
    s.host.decision.isSome = true → s.host.stream = some st → s.host.addr.isSome = true →
    s.host.fillLatched = true →
    ∃ t, exec (.readStreamByte flash) s = .next t ∧ s.onlyChanges t [.host] ∧
      t.host.driven = some 0xFF ∧ t.host.stream = some st) ∧
  (∀ (s : State) (e : ClassEntry) (st : ReadStream) (a0 : Nat) (flash : Byte),
    s.streaming e st a0 = true → st.mode = .window →
    let a := (a0 + st.index) % s.flashSize
    (s.leavesSegment st a = false →
      ∃ t, exec (.readStreamByte flash) s = .next t ∧ s.onlyChanges t [.host] ∧
        t.host.driven = some (s.window.response.bytes.getD (s.windowOffset a - 4096) 0xFF) ∧
        t.host.stream = some { st with index := st.index + 1 }) ∧
    (s.leavesSegment st a = true → s.host.fillLogged = false → s.quiet .boundaryFill = true →
      ∃ t, exec (.readStreamByte flash) s = .next t ∧ s.onlyChanges t [.host, .port, .log] ∧
        t.host.driven = some 0xFF ∧ t.host.fillLatched = true ∧ t.host.fillLogged = true ∧
        t.port.openTx.forwarded = false ∧
        s.logged t { kind := .boundaryFill, instr := s.host.instr.getD 0
                     region := st.segment.region, detail := 0x22, addr := a })) ∧
  (∀ (s : State) (e : ClassEntry) (d : Decision) (flash : Byte),
    s.pins.supply = true →
    s.host.phase = .address ∨ s.host.phase = .dummy ∨ s.host.phase = .data ∨ s.host.phase = .trail →
    s.host.entry = some e → s.host.decision = some d →
    (∀ b : Byte, (e.cls = .deny ∧ d = .fill ∧ b = 0xFF) ∨ (e.cls = .pass ∧ d = .absorb ∧ b = 0xFF) ∨
        (e.cls = .pass ∧ d = .forward ∧ b = flash) ∨ (e.cls = .statusRead ∧ d = .forward ∧ b = flash) ∨
        (e.cls = .statusRead ∧ d = .synthStatus ∧ b = 1#8 <<< s.fuses.busyBit) →
      ∃ t, exec (.readStreamByte flash) s = .next t ∧ s.onlyChanges t [.host] ∧
        t.host.driven = some b ∧
        (s.host.phase ≠ .dummy → t.host = { s.host with driven := some b }) ∧
        (s.host.phase = .dummy → t.host = { s.host with
          driven := some b, dummyCount := s.host.dummyCount + 1
          phase := if s.host.dummyCount + 1 < e.dummy then .dummy else .data })) ∧
    (e.cls = .read → s.host.phase = .dummy →
      ∃ t, exec (.readStreamByte flash) s = .next t ∧ s.onlyChanges t [.host] ∧
        t.host = { s.host with
          dummyCount := s.host.dummyCount + 1
          phase := if s.host.dummyCount + 1 < e.dummy then .dummy else .data }) ∧
    (e.cls.hasData = false → s.host.phase = .trail →
      ∃ t, exec (.readStreamByte flash) s = .next t ∧ s.onlyChanges t [.host] ∧
        t.host = { s.host with driven := some 0xFF })) ∧
  ∀ (s : State) (flash : Byte), s.pins.supply = true → s.host.phase = .abandoned →
    ∃ t, exec (.readStreamByte flash) s = .next t ∧ s.onlyChanges t [.host] ∧
      t.host = { s.host with driven := some 0xFF }

/-- Bytes the host sends. A data byte of a forwarded PROGRAM is sent on while the rule is writable; the first that finds
it no longer writable ends the forwarded program and logs once, and the bytes after it are discarded (R12, R39). So are
all those of a refused or an absorbed PROGRAM (R12, R15), and those of a window program once its rest is discarded,
which are counted as they come and log nothing (R40, R54, R57, R62). A byte of a forwarded PASS or STATUS_READ is sent
on, and one of a DENY, a held or a refused transaction is not (R7 to R10, R15); a PASS or DENY entry's address bytes are
collected, dummy bytes are counted, and the last of each ends its phase (R1). In TRAIL, an erase's too, every byte is
discarded (R1); in ABANDONED every byte is, and nothing is forwarded or logged (R21). That PROGRAM_DATA_BYTE carries
these too is assumption 11. -/
def Obligations.BytesTheHostSends : Prop :=
  (∀ (s : State) (a : Nat) (b : Byte), s.programming .forward a = true →
    (s.effectiveRule (s.lookup a) = .openAll → ∀ byte lanes physical last,
      s.port.openTx = .host byte lanes physical last →
      ∃ t, exec (.programDataByte b) s = .next t ∧ s.onlyChanges t [.port] ∧
        t.port = { s.port with openTx := .host byte lanes physical (some b) }) ∧
    (s.effectiveRule (s.lookup a) ≠ .openAll → s.quiet .writeRefused = true →
      ∃ t, exec (.programDataByte b) s = .next t ∧ s.onlyChanges t [.host, .port, .log] ∧
        t.host = { s.host with discarding := true } ∧ t.port.openTx.forwarded = false ∧
        s.logged t { kind := .writeRefused, instr := s.host.instr.getD 0
                     region := (s.lookup a).region, detail := (s.effectiveRule (s.lookup a)).code
                     addr := a })) ∧
  (∀ (s : State) (e : ClassEntry) (d : Decision) (a : Nat) (b : Byte),
    s.pins.supply = true → s.host.phase = .data → s.host.entry = some e → e.cls = .program →
    s.host.decision = some d → s.host.addr = some a →
    (d = .refuse ∨ d = .absorb ∨ (d = .forward ∧ s.host.discarding = true) →
      exec (.programDataByte b) s = .next s) ∧
    (∀ m, d = .window → s.host.discarding = true → s.mailbox = some m →
      ∃ t, exec (.programDataByte b) s = .next t ∧ s.onlyChanges t [.host] ∧
        t.host = { s.host with dataCount := s.host.dataCount + 1 })) ∧
  (∀ (s : State) (e : ClassEntry) (d : Decision) (b : Byte),
    s.pins.supply = true →
    s.host.phase = .address ∨ s.host.phase = .dummy ∨ s.host.phase = .data ∨ s.host.phase = .trail →
    s.host.entry = some e → s.host.decision = some d →
    e.cls = .deny ∨ e.cls = .pass ∨ e.cls = .statusRead ∨ e.cls = .writeEnable ∨ e.cls = .writeDisable ∨
      e.cls = .eraseAll ∨ (e.cls = .read ∧ s.host.phase = .dummy) ∨
      ((e.cls = .erase4k ∨ e.cls = .erase32k ∨ e.cls = .erase64k) ∧ s.host.phase = .trail) →
    ∃ t, exec (.programDataByte b) s = .next t ∧ s.onlyChanges t [.host, .port] ∧
      (s.host.phase = .data ∨ s.host.phase = .trail → t.host = s.host) ∧
      (s.host.phase = .address → t.host = { s.host with
        addrBytes := s.host.addrBytes ++ [b]
        phase := if s.host.addrBytes.length + 1 < e.addrLen then .address else e.afterAddress }) ∧
      (s.host.phase = .dummy → t.host = { s.host with
        dummyCount := s.host.dummyCount + 1
        phase := if s.host.dummyCount + 1 < e.dummy then .dummy else e.afterDummy }) ∧
      (d ≠ .forward ∨ (e.cls ≠ .pass ∧ e.cls ≠ .statusRead) → t.port = s.port) ∧
      (∀ byte lanes physical last, d = .forward → e.cls = .pass ∨ e.cls = .statusRead →
        s.port.openTx = .host byte lanes physical last →
        t.port = { s.port with openTx := .host byte lanes physical (some b) })) ∧
  ∀ (c : Instr) (s : State), Source.of c = .host → (∀ flash, c ≠ .readStreamByte flash) →
    s.pins.supply = true → s.host.phase = .abandoned → exec c s = .next s

/-! ## The Management Window (chapter 3) -/

/-- Byte j of a program lands within the page of its first (R52). A byte that lands at the received count is appended
(R53, R54); a first byte that lands elsewhere is a sequence break: discarded in IDLE and DONE, and in ASSEMBLING the
partial frame is discarded, with the byte beginning a new frame where it lands at offset 0 (R53); a later one is a page
wrap (R54). One program logs one FRAME_BAD for breaks at most (R54). Bytes after the state has left ASSEMBLING are
discarded (R57); a request-area program that begins while a request executes is an overrun (R62). -/
def Obligations.RequestAreaBytes : Prop :=
  (∀ w j : Nat, landing w j / 256 = w / 256 ∧ landing w j % 256 = (w + j) % 256) ∧
  ∀ (s : State) (a : Nat) (b : Byte) (m : Nat × RegionRecord),
    s.programming .window a = true → s.mailbox = some m →
    let w := s.windowOffset a
    let n := s.window.buffer.length
    let broken : Window :=
      { s.window with state := .idle, buffer := [], header := none, frameLength := none }
    let break_ (detail : Byte) : Incident :=
      { kind := .frameBad, instr := s.host.instr.getD 0, region := byteOf m.1, detail := detail, addr := a }
    ∃ t, exec (.programDataByte b) s = .next t ∧
    (s.window.state ≠ .executing →
      (s.host.dataCount = 0 ∨ s.window.state = .assembling) → landing w s.host.dataCount = n →
      n + 1 ≠ 8 → s.window.frameLength ≠ some (n + 1) →
      s.onlyChanges t [.host, .window] ∧
      t.window = { s.window with state := .assembling, buffer := s.window.buffer ++ [b] } ∧
      t.host = { s.host with dataCount := s.host.dataCount + 1 }) ∧
    (s.host.dataCount = 0 → s.window.state = .idle ∨ s.window.state = .done → w ≠ n →
      s.host.breakLogged = false → s.quiet .frameBad = true →
      s.onlyChanges t [.host, .log] ∧ t.host.discarding = true ∧ t.host.breakLogged = true ∧
      s.logged t (break_ 0x30)) ∧
    (s.host.dataCount = 0 → s.window.state = .assembling → w ≠ n → w ≠ 0 →
      s.host.breakLogged = false → s.quiet .frameBad = true →
      s.onlyChanges t [.host, .window, .log] ∧ t.window = broken ∧
      t.host.discarding = true ∧ t.host.breakLogged = true ∧ s.logged t (break_ 0x30)) ∧
    (s.host.dataCount = 0 → s.window.state = .assembling → w ≠ n → w = 0 →
      s.host.breakLogged = false → s.quiet .frameBad = true →
      s.onlyChanges t [.host, .window, .log] ∧
      t.window = { broken with state := .assembling, buffer := [b] } ∧
      t.host.discarding = false ∧ t.host.breakLogged = true ∧ s.logged t (break_ 0x30)) ∧
    (0 < s.host.dataCount → s.window.state = .assembling → landing w s.host.dataCount ≠ n →
      (s.host.breakLogged = false → s.quiet .frameBad = true →
        s.onlyChanges t [.host, .window, .log] ∧ t.window = broken ∧ t.host.discarding = true ∧
        t.host.breakLogged = true ∧ s.logged t (break_ 0x31)) ∧
      (s.host.breakLogged = true →
        s.onlyChanges t [.host, .window] ∧ t.window = broken ∧ t.host.discarding = true)) ∧
    (0 < s.host.dataCount → s.window.state ≠ .assembling →
      s.onlyChanges t [.host] ∧ t.host.discarding = true) ∧
    (s.host.dataCount = 0 → s.window.state = .executing → s.quiet .requestOverrun = true →
      s.onlyChanges t [.host, .window, .log] ∧
      t.window = { s.window with overrun := satInc s.window.overrun } ∧ t.host.discarding = true ∧
      s.logged t { kind := .requestOverrun, instr := s.host.instr.getD 0, region := byteOf m.1
                   detail := (s.window.header.map (·.code)).getD 0, addr := a })

/-- The 8th byte completes the header, which is accepted with its frame length or answered BAD_FRAME (R55). -/
def Obligations.EighthByteDecidesTheHeader : Prop :=
  ∀ (s : State) (a : Nat) (b : Byte) (m : Nat × RegionRecord),
    s.programming .window a = true → s.mailbox = some m → s.window.state = .assembling →
    s.window.buffer.length = 7 → landing (s.windowOffset a) s.host.dataCount = 7 →
    let frame := s.window.buffer ++ [b]
    let h : FrameHeader := { magic := frame.take 3, code := byteAt frame 3
                             tag := BitVec.ofNat 16 (ofLe [byteAt frame 4, byteAt frame 5])
                             bodyLength := ofLe [byteAt frame 6, byteAt frame 7] }
    (h.magic = [0x45, 0x4A, 0x51] → h.bodyLength ≤ 4086 →
      ∃ t, exec (.programDataByte b) s = .next t ∧ s.onlyChanges t [.host, .window] ∧
        t.window = { s.window with
          buffer := frame, header := some h, frameLength := some (8 + h.bodyLength + 2) }) ∧
    (h.magic ≠ [0x45, 0x4A, 0x51] ∨ 4086 < h.bodyLength → s.quiet .frameBad = true →
      ∃ t, exec (.programDataByte b) s = .next t ∧ s.onlyChanges t [.host, .window, .log] ∧
        t.window = { s.window with
          state := .done, buffer := [], header := none, frameLength := none
          response := { code := h.code, status := .badFrame, overrun := 0, tag := h.tag, body := [] } } ∧
        t.host.discarding = true ∧
        s.logged t { kind := .frameBad, instr := s.host.instr.getD 0, region := byteOf m.1
                     detail := 0x32, addr := a })

/-- The byte that completes a frame: a wrong check is answered BAD_CHECK, a good one starts the execution, and the
request is dispatched, or answered by the window itself (R56, R59, R65). -/
def Obligations.CompleteFrameIsCheckedAndDispatched : Prop :=
  ∀ (s : State) (a : Nat) (b : Byte) (m : Nat × RegionRecord) (h : FrameHeader),
    s.programming .window a = true → s.mailbox = some m → s.window.state = .assembling →
    s.window.header = some h →
    landing (s.windowOffset a) s.host.dataCount = s.window.buffer.length →
    s.window.buffer.length + 1 ≠ 8 → s.window.frameLength = some (s.window.buffer.length + 1) →
    let frame := s.window.buffer ++ [b]
    (frameCheckMatches frame = false → s.quiet .frameBad = true →
      ∃ t, exec (.programDataByte b) s = .next t ∧ s.onlyChanges t [.host, .window, .log] ∧
        t.window.state = .done ∧ t.window.buffer = [] ∧ t.window.header = none ∧
        t.window.frameLength = none ∧ t.window.response =
          { code := h.code, status := .badCheck, overrun := 0, tag := h.tag, body := [] } ∧
        s.logged t { kind := .frameBad, instr := s.host.instr.getD 0, region := byteOf m.1
                     detail := 0x33, addr := a }) ∧
    (frameCheckMatches frame = true →
      ∃ t, exec (.programDataByte b) s = .next t ∧ s.onlyChanges t [.host, .window] ∧
        (∀ r, Request.ofCode h.code = some r → r.admitsLength h.bodyLength = true →
          t.window.state = .executing ∧ t.window.dispatched = some r ∧ t.window.overrun = 0 ∧
          t.window.buffer = frame ∧ t.window.response =
            { code := h.code, status := .busy, overrun := 0, tag := h.tag, body := [] }) ∧
        (∀ r, Request.ofCode h.code = some r → r.admitsLength h.bodyLength = false →
          t.window.state = .done ∧ t.window.response =
            { code := h.code, status := .badArgument, overrun := 0, tag := h.tag, body := [] }) ∧
        (Request.ofCode h.code = none →
          t.window.state = .done ∧ t.window.response =
            { code := h.code, status := .unknownRequest, overrun := 0, tag := h.tag, body := [] }))

/-- The response area presents a frame of header, body and check: the magic, the code, the status and the overrun
count; the tag and the body length, low byte first; the body; and a check that is the frame check of what precedes it
(R61, R192, section 11.2). -/
def Obligations.ResponseFramesCarryTheirCheck : Prop :=
  ∀ f : ResponseFrame, f.bytes.length = 10 + f.body.length ∧ frameCheckMatches f.bytes = true ∧
    f.bytes.take 8 = [0xA5, f.code, f.status.code, f.overrun] ++ le 2 f.tag.toNat ++ le 2 f.body.length ∧
    f.bytes.drop 8 = f.body ++ le 2 (frameCheck f.unchecked).toNat

/-- GET_STATUS changes nothing but the response and answers 29 bytes (R66). -/
def Obligations.GetStatusAnswers : Prop :=
  ∀ (s : State) (b : Booted), s.offers .getStatus = true → s.boot.outcome = .booted b →
    ∃ t body, exec .getStatus s = .next t ∧ s.onlyChanges t [.window] ∧ s.answered t .ok body ∧
      body.length = 29 ∧
      body.take 7 = [b.verdict.code, b.running.code, b.target.code, s.boot.cause.code,
        s.store.slots.committed.code, slotCode s.store.slots.pending, byteOf s.store.slots.trials] ∧
      slice body 7 4 = le 4 s.store.bootCount.toNat ∧ slice body 11 2 = le 2 s.store.revertCount.toNat ∧
      slice body 13 6 = [byteOf s.epoch, s.fuses.revokedBits, s.session.code, s.cred.state.code,
        s.storeAttributes, byteOf s.cred.attempts] ∧
      slice body 19 2 = le 2 s.flags.toNat ∧ byteAt body 21 = byteOf s.stack.top ∧
      slice body 22 4 = le 4 ((s.log.ring.getLast?.map fun e => e.seq.toNat).getD 0) ∧
      byteAt body 26 = byteOf s.schedule.cursor ∧
      slice body 27 2 = le 2 (match s.schedule.deadline with | .stopped => 0 | .running n => n)

/-! ## Regions (chapter 2) -/

/-- Every logical address lies in exactly one segment: a record that holds it, or the maximal stretch around it that
no record covers (R25, R26). -/
def Obligations.LookupFindsTheSegment : Prop :=
  ∀ (s : State) (a : Nat), a < s.flashSize →
    s.inSegment (s.lookup a) a = true ∧
    (∀ i, s.lookup a = .record i → ∃ r, s.regions.records[i]? = some r ∧ r.base ≤ a ∧ a < r.limit) ∧
    (∀ first limit, s.lookup a = .gap first limit →
      (∀ r ∈ s.regions.records, ∀ x, first ≤ x → x < limit → ¬(r.base ≤ x ∧ x < r.limit)) ∧
      (first = 0 ∨ ∃ r ∈ s.regions.records, r.limit = first) ∧
      (limit = s.flashSize ∨ ∃ r ∈ s.regions.records, r.base = limit))

/-- An OWNER record is OPEN while the store is UNLOCKED, or UNSET without a wipe marker, and NO_ACCESS otherwise
(R29); a SPARE record follows the session (R30); a gap takes the default rule (R25); and tightening only makes a
record's rule stricter (R28). -/
def Obligations.EffectiveRules : Prop :=
  (∀ (s : State) (r : RegionRecord), r.rule = .owner →
    s.baseRule r =
      if s.cred.state = .unlocked ∨ (s.cred.state = .unset ∧ s.store.marker = none) then .openAll
      else .noAccess) ∧
  (∀ (s : State) (r : RegionRecord), r.rule = .spare →
    s.baseRule r = match s.session with
      | .closed => .noAccess | .opened => .openAll | .verifying => .readOnly | .staged => .readOnly) ∧
  (∀ (s : State) (first limit : Nat), s.effectiveRule (.gap first limit) = s.regions.defaultRule) ∧
  (∀ (s : State) (i : Nat) (r : RegionRecord), s.regions.records[i]? = some r →
    (s.baseRule r).rank ≤ (s.effectiveRule (.record i)).rank ∧
    (r.tight = .none → s.effectiveRule (.record i) = s.baseRule r) ∧
    (r.tight = .readOnly → s.effectiveRule (.record i) ≠ .openAll) ∧
    (r.tight = .noAccess → s.effectiveRule (.record i) = .noAccess))

/-- TIGHTEN_REGION: the level is raised, or kept where it is the present one; an index, record or level that the
request does not admit is answered BAD_ARGUMENT (R46). -/
def Obligations.TightenRegionRequest : Prop :=
  ∀ s : State, s.offers .tightenRegion = true →
    let body := s.window.requestBody
    let index := (byteAt body 0).toNat
    (∀ (r : RegionRecord) (level : Tightening), s.regions.records[index]? = some r → r.rule ≠ .mailbox →
      (byteAt body 1 = 2 ∧ level = .readOnly) ∨ (byteAt body 1 = 3 ∧ level = .noAccess) →
      r.tight.rank ≤ level.rank →
      ∃ t, exec .tightenRegion s = .next t ∧ s.onlyChanges t [.regions, .window] ∧
        t.regions = { s.regions with
          records := s.regions.records.set index { r with tight := level } } ∧
        s.answered t .ok [byteAt body 0, byteAt body 1]) ∧
    (∀ (r : RegionRecord) (level : Tightening), s.regions.records[index]? = none ∨
        (s.regions.records[index]? = some r ∧
          (r.rule = .mailbox ∨ (byteAt body 1 ≠ 2 ∧ byteAt body 1 ≠ 3) ∨
            (level.code = byteAt body 1 ∧ level.rank < r.tight.rank))) →
      ∃ t, exec .tightenRegion s = .next t ∧ s.onlyChanges t [.window] ∧
        s.answered t .badArgument [])

/-- Outside selection no command lowers a record's tightening or changes anything else of it; a start empties the
table (R45). -/
def Obligations.TighteningOnlyRises : Prop :=
  ∀ (c : Instr) (s t : State) (i : Nat) (r r' : RegionRecord),
    s.boot.phase ≠ .selecting → exec c s = .next t →
    s.regions.records[i]? = some r → t.regions.records[i]? = some r' →
    r.tight.rank ≤ r'.tight.rank ∧ r' = { r with tight := r'.tight }

/-- The first law of the part, at the step that opens a transaction: no PROGRAM or erase is forwarded into the recovery
span, the running manifest's area or a RUNNING-view record's area for the running slot. A program stays in its 256-byte
page; an erase clears its span (R24). -/
def Obligations.FirstLaw : Prop :=
  ∀ (command : Bytes → Instr) (k : InstrClass),
    (command, k) ∈ [(Instr.program, InstrClass.program), (Instr.erase4k, InstrClass.erase4k),
      (Instr.erase32k, InstrClass.erase32k), (Instr.erase64k, InstrClass.erase64k)] →
    ∀ (s t : State) (b : Booted) (address : Bytes) (byte : Byte) (lanes p : Nat) (last : Option Byte)
      (reached : Nat × Nat),
    s.loadedBy b = true → s.port.openTx.forwarded = false → exec (command address) s = .next t →
    t.port.openTx = .host byte lanes (some p) last → k.reach p = some reached →
    clearOf (s.protectedAreas b) reached.1 reached.2 = true

/-! ## The Measurement Stack (chapter 6) -/

/-- OPEN_STAGE: refused over an OPEN entry, opens the entry at the top index, folds into entry 7, or is refused as
FULL (R115 to R117, R121, R125). -/
def Obligations.OpenStageRequest : Prop :=
  ∀ (s : State) (b : Booted), s.offers .openStage = true → s.boot.outcome = .booted b →
    let label := s.window.requestBody
    (s.stack.openTop.isSome = true → s.quiet .stackRefused = true →
      ∃ t, exec .openStage s = .next t ∧ s.onlyChanges t [.flags, .log, .window] ∧
        t.flags = s.flags ||| 0x80 ∧
        s.logged t { kind := .stackRefused, instr := 0, region := 0xFF, detail := 0x40, addr := 0 } ∧
        s.answered t .refusedState []) ∧
    (s.stack.openTop = none → s.stack.top < 8 →
      ∃ t, exec .openStage s = .next t ∧ s.onlyChanges t [.stack, .window] ∧
        t.stack.top = s.stack.top + 1 ∧
        t.stack.entries = s.stack.entries.setIfInBounds s.stack.top
          { tag := .opened, label := label, value := List.replicate 32 0, count := 0, folded := false } ∧
        s.answered t .ok [byteOf s.stack.top, 0]) ∧
    (s.stack.openTop = none → s.stack.top = 8 → b.params.overflow = .fold →
      ∃ t, exec .openStage s = .next t ∧ s.onlyChanges t [.stack, .flags, .window] ∧
        t.flags = s.flags ||| 0x40 ∧ t.stack.top = 8 ∧
        t.stack.entries = s.stack.entries.setIfInBounds 7
          { s.stack.entries.get 7 with tag := .opened, label := label, folded := true } ∧
        s.answered t .ok [7, 1]) ∧
    (s.stack.openTop = none → s.stack.top = 8 → b.params.overflow = .refuse →
      s.quiet .stackRefused = true →
      ∃ t, exec .openStage s = .next t ∧ s.onlyChanges t [.flags, .log, .window] ∧
        t.flags = s.flags ||| 0x40 ∧
        s.logged t { kind := .stackRefused, instr := 0, region := 0xFF, detail := 0x41, addr := 0 } ∧
        s.answered t .full [])

/-- EXTEND: the hash of the OPEN top entry's value followed by the input becomes its value and its count rises,
saturating; its label, tag and folded mark stay. With no OPEN top entry it is refused (R114, R118). -/
def Obligations.ExtendRequest : Prop :=
  (∀ (s : State) (i : Nat) (e : MeasEntry),
    s.offers .extend = true → s.stack.openTop = some (i, e) →
    ∃ t, exec .extend s = .next t ∧ s.onlyChanges t [.window, .job] ∧
      t.job = .extendHash s.window.requestBody ∧
      t.window = { s.window with dispatched := none }) ∧
  (∀ s : State, s.offers .extend = true → s.stack.openTop = none → s.quiet .stackRefused = true →
    ∃ t, exec .extend s = .next t ∧ s.onlyChanges t [.flags, .log, .window] ∧
      t.flags = s.flags ||| 0x80 ∧
      s.logged t { kind := .stackRefused, instr := 0, region := 0xFF, detail := 0x42, addr := 0 } ∧
      s.answered t .refusedState []) ∧
  (∀ (s : State) (i : Nat) (e : MeasEntry) (input : Bytes),
    s.alive = true → s.job = .extendHash input → s.stack.openTop = some (i, e) →
    ∃ t, exec .extendHashComplete s = .next t ∧ s.onlyChanges t [.stack, .window, .job] ∧
      t.job = .idle ∧ t.stack.top = s.stack.top ∧
      t.stack.entries = s.stack.entries.setIfInBounds i
        { e with value := sha256 (e.value ++ input), count := satInc e.count } ∧
      s.answered t .ok
        ([byteOf i] ++ le 2 (satInc e.count).toNat ++ sha256 (e.value ++ input)))

/-- CLOSE_STAGE closes the OPEN top entry and raises STAGE_CLOSED: the waiting entry fires if it matches, and the
cursor advances, unless an action restarts the part; with no OPEN top entry it is refused. READ_MEASUREMENTS lists
the entries below the top index and changes nothing (R94, R119, R120). -/
def Obligations.CloseStageAndReadMeasurements : Prop :=
  (∀ (s : State) (i : Nat) (e : MeasEntry),
    s.offers .closeStage = true → s.stack.openTop = some (i, e) →
    let closed : State := { s with
      window := { s.window with dispatched := none }
      stack := { s.stack with entries := s.stack.entries.setIfInBounds i { e with tag := .closed } } }
    let body := [byteOf i, 2] ++ e.label ++ e.value ++ le 2 e.count.toNat ++ [if e.folded then 1 else 0]
    ((∀ w, s.schedule.waiting = some w → w.trigger ≠ .stageClosed e.label) →
      ∃ t, exec .closeStage s = .next t ∧ s.onlyChanges t [.stack, .window] ∧
        t.stack = closed.stack ∧ s.answered t .ok body) ∧
    (∀ w u, s.schedule.waiting = some w → w.trigger = .stageClosed e.label →
      (runActions closed w.actions = .restarted u → exec .closeStage s = .next u) ∧
      (runActions closed w.actions = .on u →
        ∃ t, exec .closeStage s = .next t ∧ u.onlyChanges t [.schedule, .window] ∧
          t.schedule = { u.schedule with cursor := u.schedule.cursor + 1 } ∧ u.answered t .ok body))) ∧
  (∀ s : State, s.offers .closeStage = true → s.stack.openTop = none →
    s.quiet .stackRefused = true →
    ∃ t, exec .closeStage s = .next t ∧ s.onlyChanges t [.flags, .log, .window] ∧
      t.flags = s.flags ||| 0x80 ∧
      s.logged t { kind := .stackRefused, instr := 0, region := 0xFF, detail := 0x42, addr := 0 } ∧
      s.answered t .refusedState []) ∧
  (∀ s : State, s.offers .readMeasurements = true → s.stack.top ≤ 8 →
    ∃ (t : State) (listed : List Bytes), exec .readMeasurements s = .next t ∧ s.onlyChanges t [.window] ∧
      s.answered t .ok (byteOf s.stack.top :: listed.flatten) ∧ listed.length = s.stack.top ∧
      ∀ i e, i < s.stack.top → s.stack.entries[i]? = some e →
        listed[i]? = some ([byteOf i, e.tag.code] ++ e.label ++ e.value ++ le 2 e.count.toNat
          ++ [if e.folded then 1 else 0]))

/-! ## Identity and quotes (chapter 7) -/

/-- The identity key is derived from the UDS alone, in the range of the curve's private keys; GET_IDENTITY and QUOTE
derive it afresh, hold it while they execute and clear it when they complete (R127, R128). GET_IDENTITY answers the
serial, the public key, and the key index, epoch and image version as they stand at completion (R130). QUOTE raises its
counter, saturating, and assembles its body in the same step from the state as it stands; the signature over that body
completes it (R129, R131 to R134). -/
def Obligations.IdentityAndQuoteRequests : Prop :=
  (∀ f : Fuses, f.identity.d = ofBe (hmac f.uds
      [0x45, 0x4A, 0x20, 0x69, 0x64, 0x65, 0x6E, 0x74, 0x69, 0x74, 0x79, 0x20, 0x76, 0x31])
        % (p256Order - 1) + 1 ∧
    1 ≤ f.identity.d ∧ f.identity.d < p256Order ∧
    ∀ x y, publicPoint f.identity.d = some (x, y) → f.identity.q = be 32 x ++ be 32 y) ∧
  (∀ s : State, s.offers .getIdentity = true →
    ∃ t, exec .getIdentity s = .next t ∧ s.onlyChanges t [.window, .job] ∧
      t.job = .deriveIdentity s.fuses.identity ∧ t.window = { s.window with dispatched := none }) ∧
  (∀ (s : State) (b : Booted) (key : IdentityKey), s.alive = true → s.job = .deriveIdentity key →
    s.boot.outcome = .booted b →
    ∃ t, exec .keyDerivationComplete s = .next t ∧ s.onlyChanges t [.window, .job] ∧ t.job = .idle ∧
      s.answered t .ok (s.fuses.serial ++ key.q
        ++ [byteOf b.params.keyIndex, byteOf s.epoch] ++ le 4 b.params.imageVersion)) ∧
  (∀ (s : State) (b : Booted) (startEpoch : Nat), s.offers .quote = true →
    s.boot.outcome = .booted b → s.quote.startEpoch = some startEpoch →
    let request := s.window.requestBody
    let mask := byteAt request 32
    let counter := satInc s.quote.counter
    let listed := s.stack.listing fun i => mask.getLsbD i
    ∃ t, exec .quote s = .next t ∧ s.onlyChanges t [.window, .quote, .job] ∧
      t.window = { s.window with dispatched := none } ∧
      t.quote = { s.quote with counter := counter } ∧
      t.job = .signQuote s.fuses.identity
        (request.take 32 ++ s.fuses.serial ++ le 4 s.store.bootCount.toNat ++ le 4 counter.toNat
          ++ [byteOf s.epoch, byteOf startEpoch, byteOf b.params.keyIndex, b.verdict.code, b.running.code]
          ++ le 4 b.params.imageVersion ++ le 2 s.flags.toNat
          ++ [s.cred.state.code, s.storeAttributes, s.boot.cause.code]
          ++ le 2 s.store.revertCount.toNat ++ le 4 s.store.failedTotal.toNat
          ++ [mask, byteOf listed.length] ++ listed.flatten)) ∧
  (∀ (s : State) (key : IdentityKey) (body : Bytes), s.alive = true → s.job = .signQuote key body →
    ∃ t, exec .quoteSigned s = .next t ∧ s.onlyChanges t [.window, .job] ∧ t.job = .idle ∧
      s.answered t .ok (body ++ be 32 (ecdsaSign key.d (sha256 body)).1
        ++ be 32 (ecdsaSign key.d (sha256 body)).2))

/-! ## Signed updates (chapter 8) -/

/-- OPEN_UPDATE, STAGE_UPDATE and ABORT_UPDATE by the session, and the pending-cleared write of an abort
(R144, R145, R150). STAGE_UPDATE takes the port at once; its ready wait begins when no host transaction is open (R17),
nor one that may still be forwarded (assumption 25). -/
def Obligations.UpdateSessionRequests : Prop :=
  (∀ (s : State) (b : Booted), s.offers .openUpdate = true → s.boot.outcome = .booted b →
    ∃ t, exec .openUpdate s = .next t ∧
      (b.verdict = .trial ∨ s.session ≠ .closed ∨ s.store.slots.pending ≠ none →
        s.onlyChanges t [.window] ∧ s.answered t .refusedState []) ∧
      (b.verdict ≠ .trial → s.session = .closed → s.store.slots.pending = none →
        s.onlyChanges t [.window, .session] ∧ t.session = .opened ∧
        s.answered t .ok [b.target.code, 1])) ∧
  (∀ s : State, s.offers .stageUpdate = true →
    ∃ t, exec .stageUpdate s = .next t ∧
      (s.session ≠ .opened → s.onlyChanges t [.window] ∧ s.answered t .refusedState []) ∧
      (s.session = .opened →
        s.onlyChanges t [.window, .session, .port, .job] ∧ t.session = .verifying ∧
        t.job = .stageWait ∧ t.port.owner = .engine ∧ t.port.readyPoll = s.port.readyPoll ∧
        t.window = { s.window with dispatched := none } ∧
        (s.port.openTx = .none → s.host.mayForward = false →
          t.port.openTx = .engineStatus (pollOf s.classes)) ∧
        (s.port.openTx.forwarded = true ∨ s.host.mayForward = true →
          t.port.openTx = s.port.openTx))) ∧
  (∀ s : State, s.offers .abortUpdate = true → s.session ≠ .verifying →
    ∃ t, exec .abortUpdate s = .next t ∧
      (s.session ≠ .staged →
        s.onlyChanges t [.window, .session] ∧ t.session = .closed ∧
        s.answered t .ok [0, slotCode s.store.slots.pending]) ∧
      (s.session = .staged →
        s.onlyChanges t [.window, .write] ∧ t.write = some .abortPending ∧
        t.window = { s.window with dispatched := none })) ∧
  (∀ s : State, s.alive = true → s.write = some .abortPending →
    ∃ t, exec .writeTakesEffect s = .next t ∧ s.onlyChanges t [.store, .session, .window, .write] ∧
      t.store = { s.store with slots := { s.store.slots with pending := none, trials := 0 } } ∧
      t.session = .closed ∧ t.write = none ∧ s.answered t .ok [0, 0])

/-- A passing staging check makes the pending-set write, and the session is STAGED when it takes effect (R146); a
failing one logs STAGE_FAILED and returns the session to OPEN (R147). Either way the port is handed back. -/
def Obligations.StagingCheckEnds : Prop :=
  (∀ (s : State) (b : Booted) (copy content : FlashImage) (m : Manifest) (bs : Bytes),
    s.alive = true → s.job = .stageCheck → s.boot.outcome = .booted b →
    manifestCheck s.fuses (s.stageInput b) copy content = .pass m bs →
    ∃ t, exec (.stageCheckComplete copy content) s = .next t ∧
      s.onlyChanges t [.port, .job, .write] ∧ t.job = .idle ∧ t.port.owner = s.port.owner ∧
      t.port.openTx = .none ∧
      t.write = some (.pendingSet
        { slot := b.target, keyIndex := m.params.keyIndex, securityVersion := m.params.securityVersion
          imageVersion := m.params.imageVersion, epoch := s.epoch })) ∧
  (∀ (s : State) (g : Staged), s.alive = true → s.write = some (.pendingSet g) →
    ∃ t, exec .writeTakesEffect s = .next t ∧
      s.onlyChanges t [.store, .session, .port, .window, .write] ∧
      t.store = { s.store with
        slots := { s.store.slots with pending := some g.slot, trials := 3 } } ∧
      t.session = .staged ∧ t.port.owner = .hostPass ∧ t.port.openTx = .none ∧ t.write = none ∧
      s.answered t .ok ([g.slot.code, 3, byteOf g.keyIndex] ++ le 2 g.securityVersion
        ++ le 4 g.imageVersion ++ [byteOf g.epoch])) ∧
  (∀ (s : State) (b : Booted) (copy content : FlashImage) (reason : VerifyReason) (region : Byte)
    (version : Nat),
    s.alive = true → s.job = .stageCheck → s.boot.outcome = .booted b →
    manifestCheck s.fuses (s.stageInput b) copy content = .fail reason region version →
    s.quiet .stageFailed = true →
    ∃ t, exec (.stageCheckComplete copy content) s = .next t ∧
      s.onlyChanges t [.port, .job, .session, .log, .window] ∧ t.job = .idle ∧
      t.session = .opened ∧ t.port.owner = .hostPass ∧ t.port.openTx = .none ∧
      s.logged t { kind := .stageFailed, instr := 0, region := region, detail := reason.code
                   addr := s.fuses.manifestAddress b.target } ∧
      s.answered t (if reason = .rollback then .rollback else .verifyFailed)
        ([reason.code, region] ++ le 2 version ++ [byteOf s.epoch]))

/-- A status byte with the busy bit set is followed by another poll; one with it clear completes the ready wait, and
what waited for it goes on (R18, R19, R70, R145, R172). A granule's erase uses the live table's WRITE_ENABLE and ERASE_4K
rows with the lowest instruction bytes, of address length 4 where k exceeds 24 (R20). That its polls come before
ENGINE_GRANULE_ERASE, and that this row only begins the marker's write, which WRITE_TAKES_EFFECT makes, is assumptions
13 and 12. -/
def Obligations.ReadyWaits : Prop :=
  (∀ (s : State) (status : Byte) (e : Option PollEntry), s.alive = true →
    s.port.openTx = .engineStatus e → status.getLsbD s.fuses.busyBit = true →
    exec (.readyWaitPoll status) s = .next s) ∧
  (∀ (s : State) (status : Byte) (we er : Option ClassRow) (p : Nat), s.alive = true →
    s.port.openTx = .engineErase we er p → status.getLsbD s.fuses.busyBit = true →
    ∃ t, exec (.readyWaitPoll status) s = .next t ∧ s.onlyChanges t [.port] ∧
      t.port = { s.port with openTx := .engineStatus (pollOf s.classes) }) ∧
  (∀ (s : State) (status : Byte), s.alive = true →
    (∃ e, s.port.openTx = .engineStatus e) ∨ (∃ we er p, s.port.openTx = .engineErase we er p) →
    status.getLsbD s.fuses.busyBit = false →
    (∀ b, s.job = .stageWait → s.boot.outcome = .booted b →
      ∃ t, exec (.readyWaitPoll status) s = .next t ∧ s.onlyChanges t [.port, .job] ∧
        t.job = .stageCheck ∧ t.port.owner = s.port.owner ∧
        t.port.openTx = .engineRead s.fuses.readByte
          (if s.fuses.engineAddrLen = 3 then s.fuses.manifestAddress b.target % 2 ^ 24
           else s.fuses.manifestAddress b.target) s.fuses.engineAddrLen) ∧
    (s.job = .startWait → s.boot.sample = none →
      ∃ t, exec (.readyWaitPoll status) s = .next t ∧ s.onlyChanges t [.port, .job] ∧
        t.job = .idle ∧ t.port.openTx = .none) ∧
    (∀ asserted, s.job = .startWait → s.boot.sample = some asserted → s.boot.phase = .selecting →
      s.write = none →
      ∃ t, exec (.readyWaitPoll status) s = .next t ∧ s.onlyChanges t [.port, .job, .write] ∧
        s.selectionBegins t asserted) ∧
    (∀ m, s.job = .granuleWait → s.store.marker = some m →
      ∃ t, exec (.readyWaitPoll status) s = .next t ∧ s.onlyChanges t [.port, .job] ∧
        t.job = .granuleErase ∧ t.port = { s.port with openTx := s.granuleTx m }) ∧
    (s.job = .granuleErase →
      ∃ t, exec (.readyWaitPoll status) s = .next t ∧ s.onlyChanges t [.port, .job] ∧
        t.job = .granuleErased ∧ t.port.openTx = .none)) ∧
  (∀ (s : State) (m : WipeMarker), ∃ enable erase, s.granuleTx m = .engineErase enable erase m.next ∧
    lowestOf s.classes (fun e => e.cls = .writeEnable) enable ∧
    lowestOf s.classes (fun e => e.cls = .erase4k ∧ (s.fuses.sizeExponent ≤ 24 ∨ e.addrLen = 4)) erase) ∧
  (∀ s : State, s.alive = true → s.job = .granuleErased →
    ∃ t, exec .engineGranuleErase s = .next t ∧ s.onlyChanges t [.job, .write] ∧ t.job = .idle ∧
      t.write = some .markerAdvance)

/-- CONFIRM_BOOT: refused in RECOVERY; otherwise the first of the confirm steps that would change something begins,
and where none would the deadline stops, CONFIRMED is raised, and its actions run where the waiting entry is for it
before the request completes (R94, R156 to R158). -/
def Obligations.ConfirmBootRequest : Prop :=
  ∀ (s : State) (b : Booted), s.offers .confirmBoot = true → s.boot.outcome = .booted b →
    let taken : State := { s with window := { s.window with dispatched := none } }
    ∃ t, exec .confirmBoot s = .next t ∧
      (b.verdict = .recovery → s.onlyChanges t [.window] ∧ s.answered t .refusedState []) ∧
      (∀ slot : Slot, b.running = slot.run → b.verdict = .trial →
        s.store.slots ≠ { committed := slot, pending := none, trials := 0 } →
        s.onlyChanges t [.window, .write] ∧
        t.write = some (.confirmSlot { committed := slot, pending := none, trials := 0 })) ∧
      (∀ slot : Slot, b.running = slot.run → b.verdict = .fallback → s.store.slots.committed ≠ slot →
        s.onlyChanges t [.window, .write] ∧
        t.write = some (.confirmSlot { s.store.slots with committed := slot })) ∧
      (b.verdict = .normal ∨
          (∃ slot : Slot, b.running = slot.run ∧
            ((b.verdict = .trial ∧
                s.store.slots = { committed := slot, pending := none, trials := 0 }) ∨
              (b.verdict = .fallback ∧ s.store.slots.committed = slot))) →
        (s.epoch < min b.params.securityVersion 64 →
          s.onlyChanges t [.window, .write] ∧
          t.write = some (.confirmEpoch { slotState := false, epoch := false, revocation := false })) ∧
        (min b.params.securityVersion 64 ≤ s.epoch → b.params.revokeOther = true →
          s.fuses.otherRevoked b.params = false →
          s.onlyChanges t [.window, .write] ∧
          t.write = some
            (.confirmRevoke { slotState := false, epoch := false, revocation := false })) ∧
        (min b.params.securityVersion 64 ≤ s.epoch →
          b.params.revokeOther = false ∨ s.fuses.otherRevoked b.params = true →
          taken.confirmedWith t (stepBits false false false)))

/-- The three confirm writes: the slot state; the epoch, raised to the larger of itself and min(S, 64), its bits blown
from bit 0; and the revoked bit of the root key that did not sign the running manifest. Each is followed by the next
that is called for; after the last the deadline stops, CONFIRMED is raised, its actions run where the waiting entry is
for it, and the request completes with the OK body of section 11.4, whose last byte holds the bits of the steps
performed (R94, R152, R153, R155, R156, R157, R158). -/
def Obligations.ConfirmWrites : Prop :=
  (∀ (s : State) (b : Booted) (v : SlotState), s.alive = true → s.boot.outcome = .booted b →
    s.write = some (.confirmSlot v) →
    let written : State := { s with store := { s.store with slots := v }, write := none }
    ∃ t, exec .writeTakesEffect s = .next t ∧ t.store = written.store ∧ t.fuses = s.fuses ∧
      (s.epoch < min b.params.securityVersion 64 →
        written.onlyChanges t [.write] ∧
        t.write = some (.confirmEpoch { slotState := true, epoch := false, revocation := false })) ∧
      (min b.params.securityVersion 64 ≤ s.epoch →
        (b.params.revokeOther = true → s.fuses.otherRevoked b.params = false →
          written.onlyChanges t [.write] ∧
          t.write = some (.confirmRevoke { slotState := true, epoch := false, revocation := false })) ∧
        (b.params.revokeOther = false ∨ s.fuses.otherRevoked b.params = true →
          written.confirmedWith t (stepBits true false false)))) ∧
  (∀ (s : State) (b : Booted) (c : ConfirmSteps), s.alive = true → s.boot.outcome = .booted b →
    s.write = some (.confirmEpoch c) → s.fuses.epochBits = thermometer s.epoch →
    let raised : State := { s with
      fuses := { s.fuses with
        epochBits := thermometer (max s.epoch (min b.params.securityVersion 64)) }
      write := none }
    ∃ t, exec .writeTakesEffect s = .next t ∧ t.store = s.store ∧ t.fuses = raised.fuses ∧
      t.epoch = max s.epoch (min b.params.securityVersion 64) ∧
      (b.params.revokeOther = true → s.fuses.otherRevoked b.params = false →
        raised.onlyChanges t [.write] ∧ t.write = some (.confirmRevoke { c with epoch := true })) ∧
      (b.params.revokeOther = false ∨ s.fuses.otherRevoked b.params = true →
        raised.confirmedWith t (stepBits c.slotState true c.revocation))) ∧
  (∀ (s : State) (b : Booted) (c : ConfirmSteps) (revoked : Fuses), s.alive = true →
    s.boot.outcome = .booted b → s.write = some (.confirmRevoke c) →
    (b.params.keyIndex = 0 ∧ revoked = { s.fuses with key1 := { s.fuses.key1 with revoked := true } }) ∨
      (b.params.keyIndex = 1 ∧ revoked = { s.fuses with key0 := { s.fuses.key0 with revoked := true } }) →
    ∃ t, exec .writeTakesEffect s = .next t ∧ t.store = s.store ∧ t.fuses = revoked ∧
      State.confirmedWith { s with fuses := revoked, write := none } t
        (stepBits c.slotState c.epoch true))

/-! ## The Credential Store (chapter 9) -/

/-- SET_OWNER, its computation and its write; UNLOCK by the store state, and the end of its comparison, a match of which
raises UNLOCKED (R94, R162, R164 to R167). That VERIFIER_COMPUTED begins the owner record's write and
WRITE_TAKES_EFFECT makes it with the store state's change, where R166 has both at the step where the computation ends,
is assumption 12; so is that a mismatch begins the failed-unlock total's write. -/
def Obligations.OwnerRequests : Prop :=
  (∀ s : State, s.offers .setOwner = true →
    ∃ t, exec .setOwner s = .next t ∧
      (s.cred.frozen = true → s.onlyChanges t [.window] ∧ s.answered t .frozen []) ∧
      (s.cred.frozen = false → s.cred.state = .locked ∨ s.cred.state = .lockedOut →
        s.onlyChanges t [.window] ∧ s.answered t .denied []) ∧
      (s.cred.frozen = false → s.cred.state = .unset → s.store.marker.isSome = true →
        s.onlyChanges t [.window] ∧ s.answered t .refusedState []) ∧
      (s.cred.frozen = false →
        s.cred.state = .unlocked ∨ (s.cred.state = .unset ∧ s.store.marker = none) →
        s.onlyChanges t [.window, .job] ∧ t.job = .computeVerifier s.window.requestBody)) ∧
  (∀ (s : State) (proof : Bytes), s.alive = true → s.job = .computeVerifier proof →
    ∃ t, exec .verifierComputed s = .next t ∧ s.onlyChanges t [.job, .write] ∧ t.job = .idle ∧
      t.write = some (.ownerVerifier
        (hmac s.fuses.uds ([0x45, 0x4A, 0x20, 0x6F, 0x77, 0x6E, 0x65, 0x72] ++ proof)))) ∧
  (∀ (s : State) (v : Bytes), s.alive = true → s.write = some (.ownerVerifier v) →
    ∃ t, exec .writeTakesEffect s = .next t ∧ s.onlyChanges t [.store, .cred, .window, .write] ∧
      t.store = { s.store with verifier := some v } ∧ t.write = none ∧
      t.cred = { s.cred with
        state := if s.cred.state = .unset then .unlocked else s.cred.state } ∧
      s.answered t .ok [t.cred.state.code]) ∧
  (∀ s : State, s.offers .unlock = true →
    ∃ t, exec .unlock s = .next t ∧
      (s.cred.state = .unset → s.onlyChanges t [.window] ∧ s.answered t .refusedState []) ∧
      (s.cred.state = .unlocked → s.onlyChanges t [.window] ∧
        s.answered t .ok [2, byteOf s.cred.attempts]) ∧
      (s.cred.state = .lockedOut → s.onlyChanges t [.window] ∧ s.answered t .lockedOut []) ∧
      (s.cred.state = .locked → s.onlyChanges t [.window, .job] ∧
        t.job = .compareOwner s.window.requestBody)) ∧
  (∀ (s : State) (proof : Bytes), s.alive = true → s.job = .compareOwner proof →
    let computed := hmac s.fuses.uds ([0x45, 0x4A, 0x20, 0x6F, 0x77, 0x6E, 0x65, 0x72] ++ proof)
    let matched : State := { s with job := .idle, cred := { s.cred with state := .unlocked } }
    ∃ t, exec .comparisonEnd s = .next t ∧
      (s.store.verifier = some computed →
        (∀ w, s.schedule.waiting = some w → w.trigger ≠ .unlocked) →
        s.onlyChanges t [.job, .cred, .window] ∧ t.job = .idle ∧ t.cred = matched.cred ∧
        s.answered t .ok [2, byteOf s.cred.attempts]) ∧
      (∀ w u, s.store.verifier = some computed → s.schedule.waiting = some w →
        w.trigger = .unlocked →
        (runActions matched w.actions = .restarted u → t = u) ∧
        (runActions matched w.actions = .on u →
          u.onlyChanges t [.window, .schedule] ∧
          t.schedule = { u.schedule with cursor := u.schedule.cursor + 1 } ∧
          u.answered t .ok [u.cred.state.code, byteOf s.cred.attempts])) ∧
      (s.store.verifier ≠ some computed →
        s.onlyChanges t [.job, .write] ∧ t.job = .idle ∧ t.write = some .failedTotal))

/-- RECOVER's checks in order, and the end of its comparison: a match unlocks a LOCKED store, or goes on as a WIPE;
a mismatch is a failed attempt (R162, R164, R165, R169, R171). SET_RECOVERY_LEVEL by the store state, with its write
where the level changes (R164, R170). That a matching WIPE only begins its transaction, a mismatch the failed-unlock
total's write, and SET_RECOVERY_LEVEL the level's, each made and gone on from by WRITE_TAKES_EFFECT, is assumption 12. -/
def Obligations.RecoveryRequests : Prop :=
  (∀ s : State, s.offers .recover = true →
    let action := byteAt s.window.requestBody 32
    ∃ t, exec .recover s = .next t ∧
      (∀ status : Status,
        (if action ≠ 1 ∧ action ≠ 2 then status = .badArgument
         else if s.cred.frozen = true then status = .frozen
         else if s.cred.state = .lockedOut then status = .lockedOut
         else if s.store.marker.isSome = true then status = .refusedState
         else if action = 1 ∧ s.cred.state = .unset then status = .refusedState
         else action = 1 ∧ s.store.recoveryLevel = .wipeOnly ∧ status = .denied) →
        s.onlyChanges t [.window] ∧ s.answered t status []) ∧
      (s.cred.frozen = false → s.cred.state ≠ .lockedOut → s.store.marker = none →
        action = 2 ∨ (action = 1 ∧ s.cred.state ≠ .unset ∧ s.store.recoveryLevel = .full) →
        s.onlyChanges t [.window, .job] ∧
        t.job = .compareRecovery (s.window.requestBody.take 32) (decide (action = 2)))) ∧
  (∀ (s : State) (proof : Bytes) (wipe : Bool), s.alive = true →
    s.job = .compareRecovery proof wipe →
    let computed := hmac s.fuses.uds
      ([0x45, 0x4A, 0x20, 0x72, 0x65, 0x63, 0x6F, 0x76, 0x65, 0x72, 0x79] ++ proof)
    ∃ t, exec .comparisonEnd s = .next t ∧ t.job = .idle ∧
      (s.fuses.recoveryVerifier = computed → wipe = false →
        s.onlyChanges t [.job, .cred, .window] ∧
        t.cred = { s.cred with
          state := if s.cred.state = .locked then .unlocked else s.cred.state } ∧
        s.answered t .ok [t.cred.state.code, byteOf s.cred.attempts]) ∧
      (s.fuses.recoveryVerifier = computed → wipe = true →
        s.onlyChanges t [.job, .write] ∧ t.write = some (.wipe s.ownerSpans)) ∧
      (s.fuses.recoveryVerifier ≠ computed →
        s.onlyChanges t [.job, .write] ∧ t.write = some .failedTotal)) ∧
  (∀ (s : State) (level : RecoveryLevel), s.offers .setRecoveryLevel = true →
    (byteAt s.window.requestBody 0 = 1 ∧ level = .full) ∨
      (byteAt s.window.requestBody 0 = 2 ∧ level = .wipeOnly) →
    ∃ t, exec .setRecoveryLevel s = .next t ∧
      (∀ status, s.changesRefused status → s.onlyChanges t [.window] ∧ s.answered t status []) ∧
      (s.changesAdmitted →
        (s.store.recoveryLevel = level →
          s.onlyChanges t [.window] ∧ s.answered t .ok [level.code]) ∧
        (s.store.recoveryLevel ≠ level →
          s.onlyChanges t [.window, .write] ∧ t.write = some (.recoveryLevel level)))) ∧
  (∀ s : State, s.offers .setRecoveryLevel = true → byteAt s.window.requestBody 0 ≠ 1 →
    byteAt s.window.requestBody 0 ≠ 2 →
    ∃ t, exec .setRecoveryLevel s = .next t ∧ s.onlyChanges t [.window] ∧
      s.answered t .badArgument []) ∧
  (∀ (s : State) (level : RecoveryLevel), s.alive = true → s.write = some (.recoveryLevel level) →
    ∃ t, exec .writeTakesEffect s = .next t ∧ s.onlyChanges t [.store, .window, .write] ∧
      t.store = { s.store with recoveryLevel := level } ∧ t.write = none ∧
      s.answered t .ok [level.code])

/-- A failed attempt: the total, the attempts used and UNLOCK_FAILED; at the fifth the store becomes LOCKED_OUT,
UNLOCK_LOCKOUT is set and LOCKOUT is raised to the watch list, whose matching entries run their actions. The answer is
DENIED, unless they restart the part (R165). That the write and what follows it are a step of their own after the
comparison's end is assumption 12. -/
def Obligations.FailedAttempt : Prop :=
  ∀ s : State, s.alive = true → s.write = some .failedTotal → s.quiet .unlockFailed = true →
    let n := s.cred.attempts + 1
    ∃ counted : State, s.onlyChanges counted [.store, .cred, .log, .write] ∧
      counted.store = { s.store with failedTotal := satInc s.store.failedTotal } ∧
      counted.cred = { s.cred with attempts := n } ∧ counted.write = none ∧
      s.logged counted
        { kind := .unlockFailed, instr := 0, region := 0xFF, detail := byteOf n, addr := 0 } ∧
      (n ≠ 5 →
        ∃ t, exec .writeTakesEffect s = .next t ∧ counted.onlyChanges t [.window] ∧
          counted.answered t .denied [s.cred.state.code, byteOf n]) ∧
      (n = 5 →
        let lockedOut : State := { counted with
          cred := { counted.cred with state := .lockedOut }, flags := s.flags ||| 0x200 }
        (∀ u, fireWatch .lockout lockedOut = .restarted u → exec .writeTakesEffect s = .next u) ∧
        (∀ u, fireWatch .lockout lockedOut = .on u →
          ∃ t, exec .writeTakesEffect s = .next t ∧ u.onlyChanges t [.window] ∧
            u.answered t .denied [3, 5] ∧ t.cred.state = .lockedOut ∧ t.cred.attempts = 5) ∧
        ((∀ e ∈ s.schedule.watch, e.trigger ≠ .lockout) →
          fireWatch .lockout lockedOut = .on lockedOut))

/-- LOCK makes an UNLOCKED store LOCKED and nothing else of it changes; FREEZE sets FROZEN; the actions LOCK_STORE
and FREEZE_STORE do the same (R168). -/
def Obligations.LockAndFreeze : Prop :=
  (∀ s : State, s.offers .lock = true →
    ∃ t, exec .lock s = .next t ∧ s.onlyChanges t [.cred, .window] ∧
      t.cred = { s.cred with
        state := if s.cred.state = .unlocked then .locked else s.cred.state } ∧
      s.answered t .ok [t.cred.state.code]) ∧
  (∀ s : State, s.offers .freeze = true →
    ∃ t, exec .freeze s = .next t ∧ s.onlyChanges t [.cred, .window] ∧
      t.cred = { s.cred with frozen := true } ∧
      s.answered t .ok [s.cred.state.code, if s.store.marker.isSome then 3 else 1]) ∧
  (∀ s : State, ∃ t, runAction s .lockStore = .on t ∧ s.onlyChanges t [.cred] ∧
    t.cred = { s.cred with
      state := if s.cred.state = .unlocked then .locked else s.cred.state }) ∧
  (∀ s : State, ∃ t, runAction s .freezeStore = .on t ∧ s.onlyChanges t [.cred] ∧
    t.cred = { s.cred with frozen := true })

/-- WIPE: its refusals; its one transaction over the owner spans, with the port taken at once and the first granule's
ready wait begun when no host transaction is open, nor one that may still be forwarded (assumption 25); and each granule's
marker write, the last of which removes the marker and ends the wipe, at start-up with VERIFIED raised (R90, R164, R171
to R173). That the transaction and the marker's advance are each begun in one step and made by WRITE_TAKES_EFFECT is
assumption 12. -/
def Obligations.WipeRequest : Prop :=
  (∀ s : State, s.offers .wipe = true →
    ∃ t, exec .wipe s = .next t ∧
      (∀ status, s.changesRefused status → s.onlyChanges t [.window] ∧ s.answered t status []) ∧
      (s.changesAdmitted →
        s.onlyChanges t [.window, .write] ∧ t.write = some (.wipe s.ownerSpans))) ∧
  (∀ (s : State) (spans : List Span), s.alive = true → s.write = some (.wipe spans) →
    ∃ t, exec .writeTakesEffect s = .next t ∧ t.cred = { s.cred with state := .unset } ∧
      t.write = none ∧
      t.store = { s.store with
        creds := Vector.replicate 16 none, verifier := none, recoveryLevel := .full
        marker := spans.head?.map fun first => { spans := spans, next := first.base } } ∧
      (spans = [] →
        s.onlyChanges t [.store, .cred, .window, .write] ∧ s.answered t .ok [0, 0, 0]) ∧
      (spans ≠ [] →
        s.onlyChanges t [.store, .cred, .port, .job, .write] ∧ t.job = .granuleWait ∧
        t.port.owner = .engine ∧ (∀ r, r.rule = .owner → t.baseRule r = .noAccess) ∧
        (s.port.openTx = .none → s.host.mayForward = false →
          t.port.openTx = .engineStatus (pollOf s.classes)) ∧
        (s.port.openTx.forwarded = true ∨ s.host.mayForward = true →
          t.port.openTx = s.port.openTx))) ∧
  (∀ (s : State) (m : WipeMarker), s.alive = true → s.write = some .markerAdvance →
    s.store.marker = some m →
    ∃ t, exec .writeTakesEffect s = .next t ∧
      t.store = { s.store with
        marker := (nextGranule m.spans m.next).map fun next => { m with next := next } } ∧
      ((nextGranule m.spans m.next).isSome = true → s.port.openTx = .none →
        s.host.mayForward = false →
        s.onlyChanges t [.store, .port, .job, .write] ∧ t.write = none ∧ t.job = .granuleWait ∧
        t.port.owner = s.port.owner ∧ t.port.openTx = .engineStatus (pollOf s.classes)) ∧
      (nextGranule m.spans m.next = none → s.boot.phase = .running →
        s.onlyChanges t [.store, .port, .window, .write] ∧ t.write = none ∧ t.port.owner = .hostPass ∧
        t.port.openTx = .none ∧
        s.answered t .ok (byteOf m.spans.length ::
          le 2 ((m.spans.map fun p => (p.limit - p.base) / 4096).sum))) ∧
      (nextGranule m.spans m.next = none → s.boot.phase = .completing →
        let erased : State := { s with
          store := { s.store with marker := none }, job := .idle, write := none }
        ((∀ w, s.schedule.waiting = some w → w.trigger ≠ .verified) →
          s.onlyChanges t [.store, .port, .lines, .boot, .scratch, .job, .write] ∧ t.write = none ∧
          t.port.owner = .hostPass ∧ t.lines.l0Asserted = false ∧ t.boot.phase = .running) ∧
        (∀ w u, s.schedule.waiting = some w → w.trigger = .verified →
          (runActions erased w.actions = .restarted u → t = u) ∧
          (runActions erased w.actions = .on u →
            u.onlyChanges t [.schedule, .boot, .lines, .port, .scratch] ∧
            t.schedule = { u.schedule with cursor := u.schedule.cursor + 1 } ∧
            t.port.owner = .hostPass ∧ t.lines.l0Asserted = false ∧ t.boot.phase = .running))))

/-- The positions a marker takes over spans that begin and end on granules and ascend are every granule of every
span, in ascending order, each once (R172). -/
def Obligations.MarkerVisitsEveryGranule : Prop :=
  ∀ spans : List Span,
    (∀ p ∈ spans, p.base % 4096 = 0 ∧ p.limit % 4096 = 0 ∧ p.base < p.limit) →
    spans.Pairwise (fun p q => p.limit ≤ q.base) →
    let visited := spans.flatMap fun p =>
      (List.range ((p.limit - p.base) / 4096)).map fun k => p.base + 4096 * k
    (wipeMarkerOver spans).map (·.next) = visited.head? ∧
    ∀ k g, visited[k]? = some g → nextGranule spans g = visited[k + 1]?

/-- PUT_CREDENTIAL stores exactly the record its body spells and DELETE_CREDENTIAL empties one; values the body does
not admit, FROZEN and the store state refuse in that order (R164, R176, R177, R193). That each begins its record's write,
and WRITE_TAKES_EFFECT makes it and answers, is assumption 12. -/
def Obligations.PutAndDeleteCredential : Prop :=
  (∀ (s : State) (i : Nat) (c : Credential), s.offers .putCredential = true → i ≤ 15 →
    c.label.length = 8 → 1 ≤ c.value.length → c.value.length ≤ 64 →
    c.policy.label.length = 4 → c.policy.expected.length = 32 →
    c.policy.minEpoch.toNat ≤ 64 → 1 ≤ c.policy.verdicts.toNat → c.policy.verdicts.toNat ≤ 15 →
    c.policy.forbidden.toNat < 1024 → c.policy.presence.toNat ≤ 1 →
    s.window.requestBody = [byteOf i, c.kind.code] ++ c.label ++ c.policy.bytes
      ++ [byteOf c.value.length] ++ c.value →
    ∃ t, exec .putCredential s = .next t ∧
      (∀ status, s.changesRefused status → s.onlyChanges t [.window] ∧ s.answered t status []) ∧
      (s.changesAdmitted →
        s.onlyChanges t [.window, .write] ∧ t.write = some (.putCredential i c))) ∧
  (∀ s : State, s.offers .putCredential = true →
    let body := s.window.requestBody
    15 < (byteAt body 0).toNat ∨ (byteAt body 1 ≠ 1 ∧ byteAt body 1 ≠ 2) ∨
      64 < (byteAt body 11).toNat ∨ byteAt body 12 = 0 ∨ 15 < (byteAt body 12).toNat ∨
      1024 ≤ ofLe [byteAt body 13, byteAt body 14] ∨ 1 < (byteAt body 15).toNat ∨
      (byteAt body 52).toNat ≠ body.length - 53 ∨ (byteAt body 52).toNat = 0 ∨
      64 < (byteAt body 52).toNat →
    ∃ t, exec .putCredential s = .next t ∧ s.onlyChanges t [.window] ∧
      s.answered t .badArgument []) ∧
  (∀ s : State, s.offers .deleteCredential = true →
    let i := (byteAt s.window.requestBody 0).toNat
    ∃ t, exec .deleteCredential s = .next t ∧
      (15 < i → s.onlyChanges t [.window] ∧ s.answered t .badArgument []) ∧
      (∀ status, i ≤ 15 → s.changesRefused status →
        s.onlyChanges t [.window] ∧ s.answered t status []) ∧
      (i ≤ 15 → s.changesAdmitted →
        (s.credential i = none → s.onlyChanges t [.window] ∧ s.answered t .notFound []) ∧
        (∀ c, s.credential i = some c →
          s.onlyChanges t [.window, .write] ∧ t.write = some (.deleteCredential i)))) ∧
  (∀ (s : State) (i : Nat) (w : Write) (c : Option Credential), s.alive = true → s.write = some w →
    (∃ d, w = .putCredential i d ∧ c = some d) ∨ (w = .deleteCredential i ∧ c = none) →
    ∃ t, exec .writeTakesEffect s = .next t ∧ s.onlyChanges t [.store, .window, .write] ∧
      t.store = { s.store with creds := s.store.creds.setIfInBounds i c } ∧ t.write = none ∧
      s.answered t .ok [byteOf i])

/-- GET_CREDENTIAL answers the value of a SECRET record and MAC_WITH_CREDENTIAL uses a KEY record, each only while the
record's policy holds; a denial logs its reason bits. LIST_CREDENTIALS lists every record without its value
(R175, R178 to R180). -/
def Obligations.CredentialUse : Prop :=
  (∀ (request : Instr) (r : Request) (kind : CredKind),
    (request, r, kind) ∈ [(Instr.getCredential, Request.getCredential, CredKind.secret),
      (Instr.macWithCredential, Request.macWithCredential, CredKind.key)] →
    ∀ (s : State) (b : Booted), s.offers r = true → s.boot.outcome = .booted b →
    let body := s.window.requestBody
    let i := (byteAt body 0).toNat
    (15 < i → ∃ t, exec request s = .next t ∧ s.onlyChanges t [.window] ∧
      s.answered t .badArgument []) ∧
    (i ≤ 15 → s.credential i = none → ∃ t, exec request s = .next t ∧ s.onlyChanges t [.window] ∧
      s.answered t .notFound []) ∧
    (∀ c, i ≤ 15 → s.credential i = some c → s.quiet .credDenied = true →
      c.kind ≠ kind ∨ s.policyFailures b c.policy ≠ 0 →
      let reasons := if c.kind ≠ kind then 0x20 else s.policyFailures b c.policy
      ∃ t, exec request s = .next t ∧ s.onlyChanges t [.log, .window] ∧
        s.logged t { kind := .credDenied, instr := 0, region := 0xFF, detail := reasons, addr := i } ∧
        s.answered t .denied [reasons]) ∧
    (∀ c, i ≤ 15 → s.credential i = some c → c.kind = kind → s.policyFailures b c.policy = 0 →
      ∃ t, exec request s = .next t ∧
        (kind = .secret → s.onlyChanges t [.window] ∧
          s.answered t .ok ([byteOf i, 1, byteOf c.value.length] ++ c.value)) ∧
        (kind = .key → s.onlyChanges t [.window, .job] ∧ t.job = .computeMac c.value (body.drop 1)))) ∧
  (∀ (s : State) (key data : Bytes), s.alive = true → s.job = .computeMac key data →
    ∃ t, exec .macComplete s = .next t ∧ s.onlyChanges t [.window, .job] ∧ t.job = .idle ∧
      s.answered t .ok (hmac key data)) ∧
  (∀ s : State, s.offers .listCredentials = true →
    ∃ (t : State) (listed : List Bytes), exec .listCredentials s = .next t ∧ s.onlyChanges t [.window] ∧
      s.answered t .ok (byteOf listed.length :: listed.flatten) ∧
      listed = (List.range 16).filterMap fun i => (s.credential i).map fun c =>
        [byteOf i] ++ c.label ++ [c.kind.code, byteOf c.value.length] ++ c.policy.bytes)

/-- A release policy holds exactly when its five conditions do, and each that fails gives its reason bit (R175). -/
def Obligations.ReleasePolicy : Prop :=
  ∀ (s : State) (b : Booted) (p : Policy),
    let failures := s.policyFailures b p
    (failures = 0 ↔
      (p.ownerRequired = 0 ∨ s.cred.state = .unlocked) ∧ p.minEpoch.toNat ≤ s.epoch ∧
      p.verdicts.getLsbD (match b.verdict with
        | .normal => 0 | .trial => 1 | .fallback => 2 | .recovery => 3) = true ∧
      (∀ k, k < 10 → ¬(p.forbidden.getLsbD k = true ∧ s.flags.getLsbD k = true)) ∧
      (p.presence = 0 ∨ ∃ e ∈ s.stack.entries.toList,
        e.tag = .closed ∧ e.label = p.label ∧ e.value = p.expected)) ∧
    (failures.getLsbD 0 = true ↔ p.ownerRequired ≠ 0 ∧ s.cred.state ≠ .unlocked) ∧
    (failures.getLsbD 1 = true ↔ s.epoch < p.minEpoch.toNat) ∧
    (failures.getLsbD 2 = true ↔ p.verdicts.getLsbD (match b.verdict with
        | .normal => 0 | .trial => 1 | .fallback => 2 | .recovery => 3) = false) ∧
    (failures.getLsbD 3 = true ↔
      ∃ k, k < 10 ∧ p.forbidden.getLsbD k = true ∧ s.flags.getLsbD k = true) ∧
    (failures.getLsbD 4 = true ↔ p.presence ≠ 0 ∧ ∀ e ∈ s.stack.entries.toList,
      ¬(e.tag = .closed ∧ e.label = p.label ∧ e.value = p.expected)) ∧
    (failures.getLsbD 5 = false ∧ failures.getLsbD 6 = false ∧ failures.getLsbD 7 = false)

/-! ## The Incident Log (chapter 10) -/

/-- An incident's entry is the newest of the ring, which holds at most 32; its kind's counter rises, saturating; and
where the rise reaches the kind's nonzero threshold, INCIDENT_THRESHOLD is set and THRESHOLD is raised to the watch
list (R182 to R186). -/
def Obligations.LoggingAnIncident : Prop :=
  ∀ (i : Incident) (s : State),
    let before := s.log.counters.get i.kind.index
    let reached := satInc before ≠ before ∧ s.log.thresholds.get i.kind.index ≠ 0 ∧
      satInc before = s.log.thresholds.get i.kind.index
    ∃ u : State, s.onlyChanges u [.log] ∧ u.log.thresholds = s.log.thresholds ∧
      u.log.counters.get i.kind.index = satInc before ∧
      (∀ k, k ≠ i.kind.index → u.log.counters.get k = s.log.counters.get k) ∧
      (s.log.seq ≠ BitVec.allOnes 32 →
        u.log.seq.toNat = s.log.seq.toNat + 1 ∧
        u.log.ring = (if s.log.ring.length < 32 then s.log.ring else s.log.ring.tail)
          ++ [{ seq := u.log.seq, incident := i, bootCount := s.store.bootCount }]) ∧
      (s.log.seq = BitVec.allOnes 32 → u.log.seq = s.log.seq ∧ u.log.ring = s.log.ring) ∧
      (reached → logIncident i s =
        fireWatch (.threshold i.kind) (u.setFlags (s.flags ||| 0x100))) ∧
      (¬reached → logIncident i s = .on u)

/-- READ_LOG: the entries at or above the starting number, oldest first, at most the maximum; a maximum outside 1..32
is answered BAD_ARGUMENT (R189). -/
def Obligations.ReadLogRequest : Prop :=
  ∀ s : State, s.offers .readLog = true →
    let start := ofLe (slice s.window.requestBody 0 4)
    let maximum := (byteAt s.window.requestBody 4).toNat
    ∃ t, exec .readLog s = .next t ∧ s.onlyChanges t [.window] ∧
      (maximum = 0 ∨ 32 < maximum → s.answered t .badArgument []) ∧
      (1 ≤ maximum → maximum ≤ 32 →
        ∃ listed : List LogEntry,
          listed = (s.log.ring.filter fun e => decide (start ≤ e.seq.toNat)).take maximum ∧
          s.answered t .ok
            (le 4 ((s.log.ring.head?.map fun e => e.seq.toNat).getD 0)
              ++ le 4 ((s.log.ring.getLast?.map fun e => e.seq.toNat).getD 0)
              ++ (s.log.counters.toList.flatMap fun c => le 2 c.toNat)
              ++ [byteOf listed.length] ++ listed.flatMap LogEntry.bytes))

/-! ## Invariants that every step keeps -/

/-- While the host does not run, L0 stays asserted, every host transaction is DENY and nothing of the host's is open
at the Flash Port (R89, R91, R105). -/
def Obligations.StepKeepsTheHostHeld : Prop :=
  ∀ s t : State, s.heldHostSafe → step s = .next t → t.heldHostSafe

/-- Attempts used never exceed five and the store is LOCKED_OUT exactly when they reach it (R165). -/
def Obligations.StepKeepsLockoutExact : Prop :=
  ∀ s t : State, s.lockoutExact → step s = .next t → t.lockoutExact

/-- The ring holds at most 32 entries, numbered one by one up to the sequence counter (R183, R184). -/
def Obligations.StepKeepsTheRingNumbered : Prop :=
  ∀ s t : State, s.log.numbered → step s = .next t → t.log.numbered

/-- The slot state stays legal: at most three trials, and none without a pending slot (R73). The part blows fuse bits in
two fields and unblows none (Fuse Block fields, R152, R155). -/
def Obligations.StepKeepsTheNonvolatileRecords : Prop :=
  (∀ s t : State, s.slotsLegal → step s = .next t → t.slotsLegal) ∧
  (∀ s t : State, step s = .next t → t.fuses.grownFrom s.fuses)

/-- The Measurement Stack keeps its shape: the entries that are not EMPTY are exactly those below the top index, at most
the top one is OPEN, and from the end of start-up on entries 0 to 2 are CLOSED (R110). -/
def Obligations.StepKeepsTheStackShape : Prop :=
  ∀ s t : State, s.stackShaped → step s = .next t → t.stackShaped

/-- The first law of the part, at every step: while a manifest is loaded its tables are such as a check passes, and the
PROGRAM or erase open for the host lies clear of the running slot's areas and the recovery span (R23, R24). -/
def Obligations.StepKeepsTheFirstLaw : Prop :=
  ∀ s t : State, s.lawful → step s = .next t → t.lawful
end

