-- ==== Sys2Proof/Laws/State.lean ====
section
/-! SUPPORT. One lemma a field an update: what each `set…` leaves in each field, true by `rfl`; and what replacing
one of L1 to L4 leaves of the four. -/

namespace Sys2Proof.Machine

/-! ### setHost -/

@[simp] theorem State.setHost_pins (s : State) v : (s.setHost v).pins = s.pins := rfl
@[simp] theorem State.setHost_host (s : State) v : (s.setHost v).host = v := rfl
@[simp] theorem State.setHost_port (s : State) v : (s.setHost v).port = s.port := rfl
@[simp] theorem State.setHost_classes (s : State) v : (s.setHost v).classes = s.classes := rfl
@[simp] theorem State.setHost_regions (s : State) v : (s.setHost v).regions = s.regions := rfl
@[simp] theorem State.setHost_window (s : State) v : (s.setHost v).window = s.window := rfl
@[simp] theorem State.setHost_boot (s : State) v : (s.setHost v).boot = s.boot := rfl
@[simp] theorem State.setHost_schedule (s : State) v : (s.setHost v).schedule = s.schedule := rfl
@[simp] theorem State.setHost_lines (s : State) v : (s.setHost v).lines = s.lines := rfl
@[simp] theorem State.setHost_stack (s : State) v : (s.setHost v).stack = s.stack := rfl
@[simp] theorem State.setHost_flags (s : State) v : (s.setHost v).flags = s.flags := rfl
@[simp] theorem State.setHost_quote (s : State) v : (s.setHost v).quote = s.quote := rfl
@[simp] theorem State.setHost_session (s : State) v : (s.setHost v).session = s.session := rfl
@[simp] theorem State.setHost_cred (s : State) v : (s.setHost v).cred = s.cred := rfl
@[simp] theorem State.setHost_log (s : State) v : (s.setHost v).log = s.log := rfl
@[simp] theorem State.setHost_fuses (s : State) v : (s.setHost v).fuses = s.fuses := rfl
@[simp] theorem State.setHost_store (s : State) v : (s.setHost v).store = s.store := rfl
@[simp] theorem State.setHost_scratch (s : State) v : (s.setHost v).scratch = s.scratch := rfl
@[simp] theorem State.setHost_job (s : State) v : (s.setHost v).job = s.job := rfl
@[simp] theorem State.setHost_write (s : State) v : (s.setHost v).write = s.write := rfl
@[simp] theorem State.setHost_pending (s : State) v : (s.setHost v).pending = s.pending := rfl

/-! ### setPort -/

@[simp] theorem State.setPort_pins (s : State) v : (s.setPort v).pins = s.pins := rfl
@[simp] theorem State.setPort_host (s : State) v : (s.setPort v).host = s.host := rfl
@[simp] theorem State.setPort_port (s : State) v : (s.setPort v).port = v := rfl
@[simp] theorem State.setPort_classes (s : State) v : (s.setPort v).classes = s.classes := rfl
@[simp] theorem State.setPort_regions (s : State) v : (s.setPort v).regions = s.regions := rfl
@[simp] theorem State.setPort_window (s : State) v : (s.setPort v).window = s.window := rfl
@[simp] theorem State.setPort_boot (s : State) v : (s.setPort v).boot = s.boot := rfl
@[simp] theorem State.setPort_schedule (s : State) v : (s.setPort v).schedule = s.schedule := rfl
@[simp] theorem State.setPort_lines (s : State) v : (s.setPort v).lines = s.lines := rfl
@[simp] theorem State.setPort_stack (s : State) v : (s.setPort v).stack = s.stack := rfl
@[simp] theorem State.setPort_flags (s : State) v : (s.setPort v).flags = s.flags := rfl
@[simp] theorem State.setPort_quote (s : State) v : (s.setPort v).quote = s.quote := rfl
@[simp] theorem State.setPort_session (s : State) v : (s.setPort v).session = s.session := rfl
@[simp] theorem State.setPort_cred (s : State) v : (s.setPort v).cred = s.cred := rfl
@[simp] theorem State.setPort_log (s : State) v : (s.setPort v).log = s.log := rfl
@[simp] theorem State.setPort_fuses (s : State) v : (s.setPort v).fuses = s.fuses := rfl
@[simp] theorem State.setPort_store (s : State) v : (s.setPort v).store = s.store := rfl
@[simp] theorem State.setPort_scratch (s : State) v : (s.setPort v).scratch = s.scratch := rfl
@[simp] theorem State.setPort_job (s : State) v : (s.setPort v).job = s.job := rfl
@[simp] theorem State.setPort_write (s : State) v : (s.setPort v).write = s.write := rfl
@[simp] theorem State.setPort_pending (s : State) v : (s.setPort v).pending = s.pending := rfl

/-! ### setWindow -/

@[simp] theorem State.setWindow_pins (s : State) v : (s.setWindow v).pins = s.pins := rfl
@[simp] theorem State.setWindow_host (s : State) v : (s.setWindow v).host = s.host := rfl
@[simp] theorem State.setWindow_port (s : State) v : (s.setWindow v).port = s.port := rfl
@[simp] theorem State.setWindow_classes (s : State) v : (s.setWindow v).classes = s.classes := rfl
@[simp] theorem State.setWindow_regions (s : State) v : (s.setWindow v).regions = s.regions := rfl
@[simp] theorem State.setWindow_window (s : State) v : (s.setWindow v).window = v := rfl
@[simp] theorem State.setWindow_boot (s : State) v : (s.setWindow v).boot = s.boot := rfl
@[simp] theorem State.setWindow_schedule (s : State) v : (s.setWindow v).schedule = s.schedule := rfl
@[simp] theorem State.setWindow_lines (s : State) v : (s.setWindow v).lines = s.lines := rfl
@[simp] theorem State.setWindow_stack (s : State) v : (s.setWindow v).stack = s.stack := rfl
@[simp] theorem State.setWindow_flags (s : State) v : (s.setWindow v).flags = s.flags := rfl
@[simp] theorem State.setWindow_quote (s : State) v : (s.setWindow v).quote = s.quote := rfl
@[simp] theorem State.setWindow_session (s : State) v : (s.setWindow v).session = s.session := rfl
@[simp] theorem State.setWindow_cred (s : State) v : (s.setWindow v).cred = s.cred := rfl
@[simp] theorem State.setWindow_log (s : State) v : (s.setWindow v).log = s.log := rfl
@[simp] theorem State.setWindow_fuses (s : State) v : (s.setWindow v).fuses = s.fuses := rfl
@[simp] theorem State.setWindow_store (s : State) v : (s.setWindow v).store = s.store := rfl
@[simp] theorem State.setWindow_scratch (s : State) v : (s.setWindow v).scratch = s.scratch := rfl
@[simp] theorem State.setWindow_job (s : State) v : (s.setWindow v).job = s.job := rfl
@[simp] theorem State.setWindow_write (s : State) v : (s.setWindow v).write = s.write := rfl
@[simp] theorem State.setWindow_pending (s : State) v : (s.setWindow v).pending = s.pending := rfl

/-! ### setBoot -/

@[simp] theorem State.setBoot_pins (s : State) v : (s.setBoot v).pins = s.pins := rfl
@[simp] theorem State.setBoot_host (s : State) v : (s.setBoot v).host = s.host := rfl
@[simp] theorem State.setBoot_port (s : State) v : (s.setBoot v).port = s.port := rfl
@[simp] theorem State.setBoot_classes (s : State) v : (s.setBoot v).classes = s.classes := rfl
@[simp] theorem State.setBoot_regions (s : State) v : (s.setBoot v).regions = s.regions := rfl
@[simp] theorem State.setBoot_window (s : State) v : (s.setBoot v).window = s.window := rfl
@[simp] theorem State.setBoot_boot (s : State) v : (s.setBoot v).boot = v := rfl
@[simp] theorem State.setBoot_schedule (s : State) v : (s.setBoot v).schedule = s.schedule := rfl
@[simp] theorem State.setBoot_lines (s : State) v : (s.setBoot v).lines = s.lines := rfl
@[simp] theorem State.setBoot_stack (s : State) v : (s.setBoot v).stack = s.stack := rfl
@[simp] theorem State.setBoot_flags (s : State) v : (s.setBoot v).flags = s.flags := rfl
@[simp] theorem State.setBoot_quote (s : State) v : (s.setBoot v).quote = s.quote := rfl
@[simp] theorem State.setBoot_session (s : State) v : (s.setBoot v).session = s.session := rfl
@[simp] theorem State.setBoot_cred (s : State) v : (s.setBoot v).cred = s.cred := rfl
@[simp] theorem State.setBoot_log (s : State) v : (s.setBoot v).log = s.log := rfl
@[simp] theorem State.setBoot_fuses (s : State) v : (s.setBoot v).fuses = s.fuses := rfl
@[simp] theorem State.setBoot_store (s : State) v : (s.setBoot v).store = s.store := rfl
@[simp] theorem State.setBoot_scratch (s : State) v : (s.setBoot v).scratch = s.scratch := rfl
@[simp] theorem State.setBoot_job (s : State) v : (s.setBoot v).job = s.job := rfl
@[simp] theorem State.setBoot_write (s : State) v : (s.setBoot v).write = s.write := rfl
@[simp] theorem State.setBoot_pending (s : State) v : (s.setBoot v).pending = s.pending := rfl

/-! ### setSchedule -/

@[simp] theorem State.setSchedule_pins (s : State) v : (s.setSchedule v).pins = s.pins := rfl
@[simp] theorem State.setSchedule_host (s : State) v : (s.setSchedule v).host = s.host := rfl
@[simp] theorem State.setSchedule_port (s : State) v : (s.setSchedule v).port = s.port := rfl
@[simp] theorem State.setSchedule_classes (s : State) v : (s.setSchedule v).classes = s.classes := rfl
@[simp] theorem State.setSchedule_regions (s : State) v : (s.setSchedule v).regions = s.regions := rfl
@[simp] theorem State.setSchedule_window (s : State) v : (s.setSchedule v).window = s.window := rfl
@[simp] theorem State.setSchedule_boot (s : State) v : (s.setSchedule v).boot = s.boot := rfl
@[simp] theorem State.setSchedule_schedule (s : State) v : (s.setSchedule v).schedule = v := rfl
@[simp] theorem State.setSchedule_lines (s : State) v : (s.setSchedule v).lines = s.lines := rfl
@[simp] theorem State.setSchedule_stack (s : State) v : (s.setSchedule v).stack = s.stack := rfl
@[simp] theorem State.setSchedule_flags (s : State) v : (s.setSchedule v).flags = s.flags := rfl
@[simp] theorem State.setSchedule_quote (s : State) v : (s.setSchedule v).quote = s.quote := rfl
@[simp] theorem State.setSchedule_session (s : State) v : (s.setSchedule v).session = s.session := rfl
@[simp] theorem State.setSchedule_cred (s : State) v : (s.setSchedule v).cred = s.cred := rfl
@[simp] theorem State.setSchedule_log (s : State) v : (s.setSchedule v).log = s.log := rfl
@[simp] theorem State.setSchedule_fuses (s : State) v : (s.setSchedule v).fuses = s.fuses := rfl
@[simp] theorem State.setSchedule_store (s : State) v : (s.setSchedule v).store = s.store := rfl
@[simp] theorem State.setSchedule_scratch (s : State) v : (s.setSchedule v).scratch = s.scratch := rfl
@[simp] theorem State.setSchedule_job (s : State) v : (s.setSchedule v).job = s.job := rfl
@[simp] theorem State.setSchedule_write (s : State) v : (s.setSchedule v).write = s.write := rfl
@[simp] theorem State.setSchedule_pending (s : State) v : (s.setSchedule v).pending = s.pending := rfl

/-! ### setLines -/

@[simp] theorem State.setLines_pins (s : State) v : (s.setLines v).pins = s.pins := rfl
@[simp] theorem State.setLines_host (s : State) v : (s.setLines v).host = s.host := rfl
@[simp] theorem State.setLines_port (s : State) v : (s.setLines v).port = s.port := rfl
@[simp] theorem State.setLines_classes (s : State) v : (s.setLines v).classes = s.classes := rfl
@[simp] theorem State.setLines_regions (s : State) v : (s.setLines v).regions = s.regions := rfl
@[simp] theorem State.setLines_window (s : State) v : (s.setLines v).window = s.window := rfl
@[simp] theorem State.setLines_boot (s : State) v : (s.setLines v).boot = s.boot := rfl
@[simp] theorem State.setLines_schedule (s : State) v : (s.setLines v).schedule = s.schedule := rfl
@[simp] theorem State.setLines_lines (s : State) v : (s.setLines v).lines = v := rfl
@[simp] theorem State.setLines_stack (s : State) v : (s.setLines v).stack = s.stack := rfl
@[simp] theorem State.setLines_flags (s : State) v : (s.setLines v).flags = s.flags := rfl
@[simp] theorem State.setLines_quote (s : State) v : (s.setLines v).quote = s.quote := rfl
@[simp] theorem State.setLines_session (s : State) v : (s.setLines v).session = s.session := rfl
@[simp] theorem State.setLines_cred (s : State) v : (s.setLines v).cred = s.cred := rfl
@[simp] theorem State.setLines_log (s : State) v : (s.setLines v).log = s.log := rfl
@[simp] theorem State.setLines_fuses (s : State) v : (s.setLines v).fuses = s.fuses := rfl
@[simp] theorem State.setLines_store (s : State) v : (s.setLines v).store = s.store := rfl
@[simp] theorem State.setLines_scratch (s : State) v : (s.setLines v).scratch = s.scratch := rfl
@[simp] theorem State.setLines_job (s : State) v : (s.setLines v).job = s.job := rfl
@[simp] theorem State.setLines_write (s : State) v : (s.setLines v).write = s.write := rfl
@[simp] theorem State.setLines_pending (s : State) v : (s.setLines v).pending = s.pending := rfl

/-! ### setRegions -/

@[simp] theorem State.setRegions_pins (s : State) v : (s.setRegions v).pins = s.pins := rfl
@[simp] theorem State.setRegions_host (s : State) v : (s.setRegions v).host = s.host := rfl
@[simp] theorem State.setRegions_port (s : State) v : (s.setRegions v).port = s.port := rfl
@[simp] theorem State.setRegions_classes (s : State) v : (s.setRegions v).classes = s.classes := rfl
@[simp] theorem State.setRegions_regions (s : State) v : (s.setRegions v).regions = v := rfl
@[simp] theorem State.setRegions_window (s : State) v : (s.setRegions v).window = s.window := rfl
@[simp] theorem State.setRegions_boot (s : State) v : (s.setRegions v).boot = s.boot := rfl
@[simp] theorem State.setRegions_schedule (s : State) v : (s.setRegions v).schedule = s.schedule := rfl
@[simp] theorem State.setRegions_lines (s : State) v : (s.setRegions v).lines = s.lines := rfl
@[simp] theorem State.setRegions_stack (s : State) v : (s.setRegions v).stack = s.stack := rfl
@[simp] theorem State.setRegions_flags (s : State) v : (s.setRegions v).flags = s.flags := rfl
@[simp] theorem State.setRegions_quote (s : State) v : (s.setRegions v).quote = s.quote := rfl
@[simp] theorem State.setRegions_session (s : State) v : (s.setRegions v).session = s.session := rfl
@[simp] theorem State.setRegions_cred (s : State) v : (s.setRegions v).cred = s.cred := rfl
@[simp] theorem State.setRegions_log (s : State) v : (s.setRegions v).log = s.log := rfl
@[simp] theorem State.setRegions_fuses (s : State) v : (s.setRegions v).fuses = s.fuses := rfl
@[simp] theorem State.setRegions_store (s : State) v : (s.setRegions v).store = s.store := rfl
@[simp] theorem State.setRegions_scratch (s : State) v : (s.setRegions v).scratch = s.scratch := rfl
@[simp] theorem State.setRegions_job (s : State) v : (s.setRegions v).job = s.job := rfl
@[simp] theorem State.setRegions_write (s : State) v : (s.setRegions v).write = s.write := rfl
@[simp] theorem State.setRegions_pending (s : State) v : (s.setRegions v).pending = s.pending := rfl

/-! ### setStack -/

@[simp] theorem State.setStack_pins (s : State) v : (s.setStack v).pins = s.pins := rfl
@[simp] theorem State.setStack_host (s : State) v : (s.setStack v).host = s.host := rfl
@[simp] theorem State.setStack_port (s : State) v : (s.setStack v).port = s.port := rfl
@[simp] theorem State.setStack_classes (s : State) v : (s.setStack v).classes = s.classes := rfl
@[simp] theorem State.setStack_regions (s : State) v : (s.setStack v).regions = s.regions := rfl
@[simp] theorem State.setStack_window (s : State) v : (s.setStack v).window = s.window := rfl
@[simp] theorem State.setStack_boot (s : State) v : (s.setStack v).boot = s.boot := rfl
@[simp] theorem State.setStack_schedule (s : State) v : (s.setStack v).schedule = s.schedule := rfl
@[simp] theorem State.setStack_lines (s : State) v : (s.setStack v).lines = s.lines := rfl
@[simp] theorem State.setStack_stack (s : State) v : (s.setStack v).stack = v := rfl
@[simp] theorem State.setStack_flags (s : State) v : (s.setStack v).flags = s.flags := rfl
@[simp] theorem State.setStack_quote (s : State) v : (s.setStack v).quote = s.quote := rfl
@[simp] theorem State.setStack_session (s : State) v : (s.setStack v).session = s.session := rfl
@[simp] theorem State.setStack_cred (s : State) v : (s.setStack v).cred = s.cred := rfl
@[simp] theorem State.setStack_log (s : State) v : (s.setStack v).log = s.log := rfl
@[simp] theorem State.setStack_fuses (s : State) v : (s.setStack v).fuses = s.fuses := rfl
@[simp] theorem State.setStack_store (s : State) v : (s.setStack v).store = s.store := rfl
@[simp] theorem State.setStack_scratch (s : State) v : (s.setStack v).scratch = s.scratch := rfl
@[simp] theorem State.setStack_job (s : State) v : (s.setStack v).job = s.job := rfl
@[simp] theorem State.setStack_write (s : State) v : (s.setStack v).write = s.write := rfl
@[simp] theorem State.setStack_pending (s : State) v : (s.setStack v).pending = s.pending := rfl

/-! ### setFlags -/

@[simp] theorem State.setFlags_pins (s : State) v : (s.setFlags v).pins = s.pins := rfl
@[simp] theorem State.setFlags_host (s : State) v : (s.setFlags v).host = s.host := rfl
@[simp] theorem State.setFlags_port (s : State) v : (s.setFlags v).port = s.port := rfl
@[simp] theorem State.setFlags_classes (s : State) v : (s.setFlags v).classes = s.classes := rfl
@[simp] theorem State.setFlags_regions (s : State) v : (s.setFlags v).regions = s.regions := rfl
@[simp] theorem State.setFlags_window (s : State) v : (s.setFlags v).window = s.window := rfl
@[simp] theorem State.setFlags_boot (s : State) v : (s.setFlags v).boot = s.boot := rfl
@[simp] theorem State.setFlags_schedule (s : State) v : (s.setFlags v).schedule = s.schedule := rfl
@[simp] theorem State.setFlags_lines (s : State) v : (s.setFlags v).lines = s.lines := rfl
@[simp] theorem State.setFlags_stack (s : State) v : (s.setFlags v).stack = s.stack := rfl
@[simp] theorem State.setFlags_flags (s : State) v : (s.setFlags v).flags = v := rfl
@[simp] theorem State.setFlags_quote (s : State) v : (s.setFlags v).quote = s.quote := rfl
@[simp] theorem State.setFlags_session (s : State) v : (s.setFlags v).session = s.session := rfl
@[simp] theorem State.setFlags_cred (s : State) v : (s.setFlags v).cred = s.cred := rfl
@[simp] theorem State.setFlags_log (s : State) v : (s.setFlags v).log = s.log := rfl
@[simp] theorem State.setFlags_fuses (s : State) v : (s.setFlags v).fuses = s.fuses := rfl
@[simp] theorem State.setFlags_store (s : State) v : (s.setFlags v).store = s.store := rfl
@[simp] theorem State.setFlags_scratch (s : State) v : (s.setFlags v).scratch = s.scratch := rfl
@[simp] theorem State.setFlags_job (s : State) v : (s.setFlags v).job = s.job := rfl
@[simp] theorem State.setFlags_write (s : State) v : (s.setFlags v).write = s.write := rfl
@[simp] theorem State.setFlags_pending (s : State) v : (s.setFlags v).pending = s.pending := rfl

/-! ### setQuote -/

@[simp] theorem State.setQuote_pins (s : State) v : (s.setQuote v).pins = s.pins := rfl
@[simp] theorem State.setQuote_host (s : State) v : (s.setQuote v).host = s.host := rfl
@[simp] theorem State.setQuote_port (s : State) v : (s.setQuote v).port = s.port := rfl
@[simp] theorem State.setQuote_classes (s : State) v : (s.setQuote v).classes = s.classes := rfl
@[simp] theorem State.setQuote_regions (s : State) v : (s.setQuote v).regions = s.regions := rfl
@[simp] theorem State.setQuote_window (s : State) v : (s.setQuote v).window = s.window := rfl
@[simp] theorem State.setQuote_boot (s : State) v : (s.setQuote v).boot = s.boot := rfl
@[simp] theorem State.setQuote_schedule (s : State) v : (s.setQuote v).schedule = s.schedule := rfl
@[simp] theorem State.setQuote_lines (s : State) v : (s.setQuote v).lines = s.lines := rfl
@[simp] theorem State.setQuote_stack (s : State) v : (s.setQuote v).stack = s.stack := rfl
@[simp] theorem State.setQuote_flags (s : State) v : (s.setQuote v).flags = s.flags := rfl
@[simp] theorem State.setQuote_quote (s : State) v : (s.setQuote v).quote = v := rfl
@[simp] theorem State.setQuote_session (s : State) v : (s.setQuote v).session = s.session := rfl
@[simp] theorem State.setQuote_cred (s : State) v : (s.setQuote v).cred = s.cred := rfl
@[simp] theorem State.setQuote_log (s : State) v : (s.setQuote v).log = s.log := rfl
@[simp] theorem State.setQuote_fuses (s : State) v : (s.setQuote v).fuses = s.fuses := rfl
@[simp] theorem State.setQuote_store (s : State) v : (s.setQuote v).store = s.store := rfl
@[simp] theorem State.setQuote_scratch (s : State) v : (s.setQuote v).scratch = s.scratch := rfl
@[simp] theorem State.setQuote_job (s : State) v : (s.setQuote v).job = s.job := rfl
@[simp] theorem State.setQuote_write (s : State) v : (s.setQuote v).write = s.write := rfl
@[simp] theorem State.setQuote_pending (s : State) v : (s.setQuote v).pending = s.pending := rfl

/-! ### setSession -/

@[simp] theorem State.setSession_pins (s : State) v : (s.setSession v).pins = s.pins := rfl
@[simp] theorem State.setSession_host (s : State) v : (s.setSession v).host = s.host := rfl
@[simp] theorem State.setSession_port (s : State) v : (s.setSession v).port = s.port := rfl
@[simp] theorem State.setSession_classes (s : State) v : (s.setSession v).classes = s.classes := rfl
@[simp] theorem State.setSession_regions (s : State) v : (s.setSession v).regions = s.regions := rfl
@[simp] theorem State.setSession_window (s : State) v : (s.setSession v).window = s.window := rfl
@[simp] theorem State.setSession_boot (s : State) v : (s.setSession v).boot = s.boot := rfl
@[simp] theorem State.setSession_schedule (s : State) v : (s.setSession v).schedule = s.schedule := rfl
@[simp] theorem State.setSession_lines (s : State) v : (s.setSession v).lines = s.lines := rfl
@[simp] theorem State.setSession_stack (s : State) v : (s.setSession v).stack = s.stack := rfl
@[simp] theorem State.setSession_flags (s : State) v : (s.setSession v).flags = s.flags := rfl
@[simp] theorem State.setSession_quote (s : State) v : (s.setSession v).quote = s.quote := rfl
@[simp] theorem State.setSession_session (s : State) v : (s.setSession v).session = v := rfl
@[simp] theorem State.setSession_cred (s : State) v : (s.setSession v).cred = s.cred := rfl
@[simp] theorem State.setSession_log (s : State) v : (s.setSession v).log = s.log := rfl
@[simp] theorem State.setSession_fuses (s : State) v : (s.setSession v).fuses = s.fuses := rfl
@[simp] theorem State.setSession_store (s : State) v : (s.setSession v).store = s.store := rfl
@[simp] theorem State.setSession_scratch (s : State) v : (s.setSession v).scratch = s.scratch := rfl
@[simp] theorem State.setSession_job (s : State) v : (s.setSession v).job = s.job := rfl
@[simp] theorem State.setSession_write (s : State) v : (s.setSession v).write = s.write := rfl
@[simp] theorem State.setSession_pending (s : State) v : (s.setSession v).pending = s.pending := rfl

/-! ### setCred -/

@[simp] theorem State.setCred_pins (s : State) v : (s.setCred v).pins = s.pins := rfl
@[simp] theorem State.setCred_host (s : State) v : (s.setCred v).host = s.host := rfl
@[simp] theorem State.setCred_port (s : State) v : (s.setCred v).port = s.port := rfl
@[simp] theorem State.setCred_classes (s : State) v : (s.setCred v).classes = s.classes := rfl
@[simp] theorem State.setCred_regions (s : State) v : (s.setCred v).regions = s.regions := rfl
@[simp] theorem State.setCred_window (s : State) v : (s.setCred v).window = s.window := rfl
@[simp] theorem State.setCred_boot (s : State) v : (s.setCred v).boot = s.boot := rfl
@[simp] theorem State.setCred_schedule (s : State) v : (s.setCred v).schedule = s.schedule := rfl
@[simp] theorem State.setCred_lines (s : State) v : (s.setCred v).lines = s.lines := rfl
@[simp] theorem State.setCred_stack (s : State) v : (s.setCred v).stack = s.stack := rfl
@[simp] theorem State.setCred_flags (s : State) v : (s.setCred v).flags = s.flags := rfl
@[simp] theorem State.setCred_quote (s : State) v : (s.setCred v).quote = s.quote := rfl
@[simp] theorem State.setCred_session (s : State) v : (s.setCred v).session = s.session := rfl
@[simp] theorem State.setCred_cred (s : State) v : (s.setCred v).cred = v := rfl
@[simp] theorem State.setCred_log (s : State) v : (s.setCred v).log = s.log := rfl
@[simp] theorem State.setCred_fuses (s : State) v : (s.setCred v).fuses = s.fuses := rfl
@[simp] theorem State.setCred_store (s : State) v : (s.setCred v).store = s.store := rfl
@[simp] theorem State.setCred_scratch (s : State) v : (s.setCred v).scratch = s.scratch := rfl
@[simp] theorem State.setCred_job (s : State) v : (s.setCred v).job = s.job := rfl
@[simp] theorem State.setCred_write (s : State) v : (s.setCred v).write = s.write := rfl
@[simp] theorem State.setCred_pending (s : State) v : (s.setCred v).pending = s.pending := rfl

/-! ### setLog -/

@[simp] theorem State.setLog_pins (s : State) v : (s.setLog v).pins = s.pins := rfl
@[simp] theorem State.setLog_host (s : State) v : (s.setLog v).host = s.host := rfl
@[simp] theorem State.setLog_port (s : State) v : (s.setLog v).port = s.port := rfl
@[simp] theorem State.setLog_classes (s : State) v : (s.setLog v).classes = s.classes := rfl
@[simp] theorem State.setLog_regions (s : State) v : (s.setLog v).regions = s.regions := rfl
@[simp] theorem State.setLog_window (s : State) v : (s.setLog v).window = s.window := rfl
@[simp] theorem State.setLog_boot (s : State) v : (s.setLog v).boot = s.boot := rfl
@[simp] theorem State.setLog_schedule (s : State) v : (s.setLog v).schedule = s.schedule := rfl
@[simp] theorem State.setLog_lines (s : State) v : (s.setLog v).lines = s.lines := rfl
@[simp] theorem State.setLog_stack (s : State) v : (s.setLog v).stack = s.stack := rfl
@[simp] theorem State.setLog_flags (s : State) v : (s.setLog v).flags = s.flags := rfl
@[simp] theorem State.setLog_quote (s : State) v : (s.setLog v).quote = s.quote := rfl
@[simp] theorem State.setLog_session (s : State) v : (s.setLog v).session = s.session := rfl
@[simp] theorem State.setLog_cred (s : State) v : (s.setLog v).cred = s.cred := rfl
@[simp] theorem State.setLog_log (s : State) v : (s.setLog v).log = v := rfl
@[simp] theorem State.setLog_fuses (s : State) v : (s.setLog v).fuses = s.fuses := rfl
@[simp] theorem State.setLog_store (s : State) v : (s.setLog v).store = s.store := rfl
@[simp] theorem State.setLog_scratch (s : State) v : (s.setLog v).scratch = s.scratch := rfl
@[simp] theorem State.setLog_job (s : State) v : (s.setLog v).job = s.job := rfl
@[simp] theorem State.setLog_write (s : State) v : (s.setLog v).write = s.write := rfl
@[simp] theorem State.setLog_pending (s : State) v : (s.setLog v).pending = s.pending := rfl

/-! ### setFuses -/

@[simp] theorem State.setFuses_pins (s : State) v : (s.setFuses v).pins = s.pins := rfl
@[simp] theorem State.setFuses_host (s : State) v : (s.setFuses v).host = s.host := rfl
@[simp] theorem State.setFuses_port (s : State) v : (s.setFuses v).port = s.port := rfl
@[simp] theorem State.setFuses_classes (s : State) v : (s.setFuses v).classes = s.classes := rfl
@[simp] theorem State.setFuses_regions (s : State) v : (s.setFuses v).regions = s.regions := rfl
@[simp] theorem State.setFuses_window (s : State) v : (s.setFuses v).window = s.window := rfl
@[simp] theorem State.setFuses_boot (s : State) v : (s.setFuses v).boot = s.boot := rfl
@[simp] theorem State.setFuses_schedule (s : State) v : (s.setFuses v).schedule = s.schedule := rfl
@[simp] theorem State.setFuses_lines (s : State) v : (s.setFuses v).lines = s.lines := rfl
@[simp] theorem State.setFuses_stack (s : State) v : (s.setFuses v).stack = s.stack := rfl
@[simp] theorem State.setFuses_flags (s : State) v : (s.setFuses v).flags = s.flags := rfl
@[simp] theorem State.setFuses_quote (s : State) v : (s.setFuses v).quote = s.quote := rfl
@[simp] theorem State.setFuses_session (s : State) v : (s.setFuses v).session = s.session := rfl
@[simp] theorem State.setFuses_cred (s : State) v : (s.setFuses v).cred = s.cred := rfl
@[simp] theorem State.setFuses_log (s : State) v : (s.setFuses v).log = s.log := rfl
@[simp] theorem State.setFuses_fuses (s : State) v : (s.setFuses v).fuses = v := rfl
@[simp] theorem State.setFuses_store (s : State) v : (s.setFuses v).store = s.store := rfl
@[simp] theorem State.setFuses_scratch (s : State) v : (s.setFuses v).scratch = s.scratch := rfl
@[simp] theorem State.setFuses_job (s : State) v : (s.setFuses v).job = s.job := rfl
@[simp] theorem State.setFuses_write (s : State) v : (s.setFuses v).write = s.write := rfl
@[simp] theorem State.setFuses_pending (s : State) v : (s.setFuses v).pending = s.pending := rfl

/-! ### setStore -/

@[simp] theorem State.setStore_pins (s : State) v : (s.setStore v).pins = s.pins := rfl
@[simp] theorem State.setStore_host (s : State) v : (s.setStore v).host = s.host := rfl
@[simp] theorem State.setStore_port (s : State) v : (s.setStore v).port = s.port := rfl
@[simp] theorem State.setStore_classes (s : State) v : (s.setStore v).classes = s.classes := rfl
@[simp] theorem State.setStore_regions (s : State) v : (s.setStore v).regions = s.regions := rfl
@[simp] theorem State.setStore_window (s : State) v : (s.setStore v).window = s.window := rfl
@[simp] theorem State.setStore_boot (s : State) v : (s.setStore v).boot = s.boot := rfl
@[simp] theorem State.setStore_schedule (s : State) v : (s.setStore v).schedule = s.schedule := rfl
@[simp] theorem State.setStore_lines (s : State) v : (s.setStore v).lines = s.lines := rfl
@[simp] theorem State.setStore_stack (s : State) v : (s.setStore v).stack = s.stack := rfl
@[simp] theorem State.setStore_flags (s : State) v : (s.setStore v).flags = s.flags := rfl
@[simp] theorem State.setStore_quote (s : State) v : (s.setStore v).quote = s.quote := rfl
@[simp] theorem State.setStore_session (s : State) v : (s.setStore v).session = s.session := rfl
@[simp] theorem State.setStore_cred (s : State) v : (s.setStore v).cred = s.cred := rfl
@[simp] theorem State.setStore_log (s : State) v : (s.setStore v).log = s.log := rfl
@[simp] theorem State.setStore_fuses (s : State) v : (s.setStore v).fuses = s.fuses := rfl
@[simp] theorem State.setStore_store (s : State) v : (s.setStore v).store = v := rfl
@[simp] theorem State.setStore_scratch (s : State) v : (s.setStore v).scratch = s.scratch := rfl
@[simp] theorem State.setStore_job (s : State) v : (s.setStore v).job = s.job := rfl
@[simp] theorem State.setStore_write (s : State) v : (s.setStore v).write = s.write := rfl
@[simp] theorem State.setStore_pending (s : State) v : (s.setStore v).pending = s.pending := rfl

/-! ### setJob -/

@[simp] theorem State.setJob_pins (s : State) v : (s.setJob v).pins = s.pins := rfl
@[simp] theorem State.setJob_host (s : State) v : (s.setJob v).host = s.host := rfl
@[simp] theorem State.setJob_port (s : State) v : (s.setJob v).port = s.port := rfl
@[simp] theorem State.setJob_classes (s : State) v : (s.setJob v).classes = s.classes := rfl
@[simp] theorem State.setJob_regions (s : State) v : (s.setJob v).regions = s.regions := rfl
@[simp] theorem State.setJob_window (s : State) v : (s.setJob v).window = s.window := rfl
@[simp] theorem State.setJob_boot (s : State) v : (s.setJob v).boot = s.boot := rfl
@[simp] theorem State.setJob_schedule (s : State) v : (s.setJob v).schedule = s.schedule := rfl
@[simp] theorem State.setJob_lines (s : State) v : (s.setJob v).lines = s.lines := rfl
@[simp] theorem State.setJob_stack (s : State) v : (s.setJob v).stack = s.stack := rfl
@[simp] theorem State.setJob_flags (s : State) v : (s.setJob v).flags = s.flags := rfl
@[simp] theorem State.setJob_quote (s : State) v : (s.setJob v).quote = s.quote := rfl
@[simp] theorem State.setJob_session (s : State) v : (s.setJob v).session = s.session := rfl
@[simp] theorem State.setJob_cred (s : State) v : (s.setJob v).cred = s.cred := rfl
@[simp] theorem State.setJob_log (s : State) v : (s.setJob v).log = s.log := rfl
@[simp] theorem State.setJob_fuses (s : State) v : (s.setJob v).fuses = s.fuses := rfl
@[simp] theorem State.setJob_store (s : State) v : (s.setJob v).store = s.store := rfl
@[simp] theorem State.setJob_scratch (s : State) v : (s.setJob v).scratch = s.scratch := rfl
@[simp] theorem State.setJob_job (s : State) v : (s.setJob v).job = v := rfl
@[simp] theorem State.setJob_write (s : State) v : (s.setJob v).write = s.write := rfl
@[simp] theorem State.setJob_pending (s : State) v : (s.setJob v).pending = s.pending := rfl

/-! ### setWrite -/

@[simp] theorem State.setWrite_pins (s : State) v : (s.setWrite v).pins = s.pins := rfl
@[simp] theorem State.setWrite_host (s : State) v : (s.setWrite v).host = s.host := rfl
@[simp] theorem State.setWrite_port (s : State) v : (s.setWrite v).port = s.port := rfl
@[simp] theorem State.setWrite_classes (s : State) v : (s.setWrite v).classes = s.classes := rfl
@[simp] theorem State.setWrite_regions (s : State) v : (s.setWrite v).regions = s.regions := rfl
@[simp] theorem State.setWrite_window (s : State) v : (s.setWrite v).window = s.window := rfl
@[simp] theorem State.setWrite_boot (s : State) v : (s.setWrite v).boot = s.boot := rfl
@[simp] theorem State.setWrite_schedule (s : State) v : (s.setWrite v).schedule = s.schedule := rfl
@[simp] theorem State.setWrite_lines (s : State) v : (s.setWrite v).lines = s.lines := rfl
@[simp] theorem State.setWrite_stack (s : State) v : (s.setWrite v).stack = s.stack := rfl
@[simp] theorem State.setWrite_flags (s : State) v : (s.setWrite v).flags = s.flags := rfl
@[simp] theorem State.setWrite_quote (s : State) v : (s.setWrite v).quote = s.quote := rfl
@[simp] theorem State.setWrite_session (s : State) v : (s.setWrite v).session = s.session := rfl
@[simp] theorem State.setWrite_cred (s : State) v : (s.setWrite v).cred = s.cred := rfl
@[simp] theorem State.setWrite_log (s : State) v : (s.setWrite v).log = s.log := rfl
@[simp] theorem State.setWrite_fuses (s : State) v : (s.setWrite v).fuses = s.fuses := rfl
@[simp] theorem State.setWrite_store (s : State) v : (s.setWrite v).store = s.store := rfl
@[simp] theorem State.setWrite_scratch (s : State) v : (s.setWrite v).scratch = s.scratch := rfl
@[simp] theorem State.setWrite_job (s : State) v : (s.setWrite v).job = s.job := rfl
@[simp] theorem State.setWrite_write (s : State) v : (s.setWrite v).write = v := rfl
@[simp] theorem State.setWrite_pending (s : State) v : (s.setWrite v).pending = s.pending := rfl

/-! ### setPins -/

@[simp] theorem State.setPins_pins (s : State) v : (s.setPins v).pins = v := rfl
@[simp] theorem State.setPins_host (s : State) v : (s.setPins v).host = s.host := rfl
@[simp] theorem State.setPins_port (s : State) v : (s.setPins v).port = s.port := rfl
@[simp] theorem State.setPins_classes (s : State) v : (s.setPins v).classes = s.classes := rfl
@[simp] theorem State.setPins_regions (s : State) v : (s.setPins v).regions = s.regions := rfl
@[simp] theorem State.setPins_window (s : State) v : (s.setPins v).window = s.window := rfl
@[simp] theorem State.setPins_boot (s : State) v : (s.setPins v).boot = s.boot := rfl
@[simp] theorem State.setPins_schedule (s : State) v : (s.setPins v).schedule = s.schedule := rfl
@[simp] theorem State.setPins_lines (s : State) v : (s.setPins v).lines = s.lines := rfl
@[simp] theorem State.setPins_stack (s : State) v : (s.setPins v).stack = s.stack := rfl
@[simp] theorem State.setPins_flags (s : State) v : (s.setPins v).flags = s.flags := rfl
@[simp] theorem State.setPins_quote (s : State) v : (s.setPins v).quote = s.quote := rfl
@[simp] theorem State.setPins_session (s : State) v : (s.setPins v).session = s.session := rfl
@[simp] theorem State.setPins_cred (s : State) v : (s.setPins v).cred = s.cred := rfl
@[simp] theorem State.setPins_log (s : State) v : (s.setPins v).log = s.log := rfl
@[simp] theorem State.setPins_fuses (s : State) v : (s.setPins v).fuses = s.fuses := rfl
@[simp] theorem State.setPins_store (s : State) v : (s.setPins v).store = s.store := rfl
@[simp] theorem State.setPins_scratch (s : State) v : (s.setPins v).scratch = s.scratch := rfl
@[simp] theorem State.setPins_job (s : State) v : (s.setPins v).job = s.job := rfl
@[simp] theorem State.setPins_write (s : State) v : (s.setPins v).write = s.write := rfl
@[simp] theorem State.setPins_pending (s : State) v : (s.setPins v).pending = s.pending := rfl

/-! ### setScratch -/

@[simp] theorem State.setScratch_pins (s : State) v : (s.setScratch v).pins = s.pins := rfl
@[simp] theorem State.setScratch_host (s : State) v : (s.setScratch v).host = s.host := rfl
@[simp] theorem State.setScratch_port (s : State) v : (s.setScratch v).port = s.port := rfl
@[simp] theorem State.setScratch_classes (s : State) v : (s.setScratch v).classes = s.classes := rfl
@[simp] theorem State.setScratch_regions (s : State) v : (s.setScratch v).regions = s.regions := rfl
@[simp] theorem State.setScratch_window (s : State) v : (s.setScratch v).window = s.window := rfl
@[simp] theorem State.setScratch_boot (s : State) v : (s.setScratch v).boot = s.boot := rfl
@[simp] theorem State.setScratch_schedule (s : State) v : (s.setScratch v).schedule = s.schedule := rfl
@[simp] theorem State.setScratch_lines (s : State) v : (s.setScratch v).lines = s.lines := rfl
@[simp] theorem State.setScratch_stack (s : State) v : (s.setScratch v).stack = s.stack := rfl
@[simp] theorem State.setScratch_flags (s : State) v : (s.setScratch v).flags = s.flags := rfl
@[simp] theorem State.setScratch_quote (s : State) v : (s.setScratch v).quote = s.quote := rfl
@[simp] theorem State.setScratch_session (s : State) v : (s.setScratch v).session = s.session := rfl
@[simp] theorem State.setScratch_cred (s : State) v : (s.setScratch v).cred = s.cred := rfl
@[simp] theorem State.setScratch_log (s : State) v : (s.setScratch v).log = s.log := rfl
@[simp] theorem State.setScratch_fuses (s : State) v : (s.setScratch v).fuses = s.fuses := rfl
@[simp] theorem State.setScratch_store (s : State) v : (s.setScratch v).store = s.store := rfl
@[simp] theorem State.setScratch_scratch (s : State) v : (s.setScratch v).scratch = v := rfl
@[simp] theorem State.setScratch_job (s : State) v : (s.setScratch v).job = s.job := rfl
@[simp] theorem State.setScratch_write (s : State) v : (s.setScratch v).write = s.write := rfl
@[simp] theorem State.setScratch_pending (s : State) v : (s.setScratch v).pending = s.pending := rfl

/-! ### setClasses -/

@[simp] theorem State.setClasses_pins (s : State) v : (s.setClasses v).pins = s.pins := rfl
@[simp] theorem State.setClasses_host (s : State) v : (s.setClasses v).host = s.host := rfl
@[simp] theorem State.setClasses_port (s : State) v : (s.setClasses v).port = s.port := rfl
@[simp] theorem State.setClasses_classes (s : State) v : (s.setClasses v).classes = v := rfl
@[simp] theorem State.setClasses_regions (s : State) v : (s.setClasses v).regions = s.regions := rfl
@[simp] theorem State.setClasses_window (s : State) v : (s.setClasses v).window = s.window := rfl
@[simp] theorem State.setClasses_boot (s : State) v : (s.setClasses v).boot = s.boot := rfl
@[simp] theorem State.setClasses_schedule (s : State) v : (s.setClasses v).schedule = s.schedule := rfl
@[simp] theorem State.setClasses_lines (s : State) v : (s.setClasses v).lines = s.lines := rfl
@[simp] theorem State.setClasses_stack (s : State) v : (s.setClasses v).stack = s.stack := rfl
@[simp] theorem State.setClasses_flags (s : State) v : (s.setClasses v).flags = s.flags := rfl
@[simp] theorem State.setClasses_quote (s : State) v : (s.setClasses v).quote = s.quote := rfl
@[simp] theorem State.setClasses_session (s : State) v : (s.setClasses v).session = s.session := rfl
@[simp] theorem State.setClasses_cred (s : State) v : (s.setClasses v).cred = s.cred := rfl
@[simp] theorem State.setClasses_log (s : State) v : (s.setClasses v).log = s.log := rfl
@[simp] theorem State.setClasses_fuses (s : State) v : (s.setClasses v).fuses = s.fuses := rfl
@[simp] theorem State.setClasses_store (s : State) v : (s.setClasses v).store = s.store := rfl
@[simp] theorem State.setClasses_scratch (s : State) v : (s.setClasses v).scratch = s.scratch := rfl
@[simp] theorem State.setClasses_job (s : State) v : (s.setClasses v).job = s.job := rfl
@[simp] theorem State.setClasses_write (s : State) v : (s.setClasses v).write = s.write := rfl
@[simp] theorem State.setClasses_pending (s : State) v : (s.setClasses v).pending = s.pending := rfl

/-! ### raiseFlag -/

@[simp] theorem State.raiseFlag_pins (s : State) f : (s.raiseFlag f).pins = s.pins := rfl
@[simp] theorem State.raiseFlag_host (s : State) f : (s.raiseFlag f).host = s.host := rfl
@[simp] theorem State.raiseFlag_port (s : State) f : (s.raiseFlag f).port = s.port := rfl
@[simp] theorem State.raiseFlag_classes (s : State) f : (s.raiseFlag f).classes = s.classes := rfl
@[simp] theorem State.raiseFlag_regions (s : State) f : (s.raiseFlag f).regions = s.regions := rfl
@[simp] theorem State.raiseFlag_window (s : State) f : (s.raiseFlag f).window = s.window := rfl
@[simp] theorem State.raiseFlag_boot (s : State) f : (s.raiseFlag f).boot = s.boot := rfl
@[simp] theorem State.raiseFlag_schedule (s : State) f : (s.raiseFlag f).schedule = s.schedule := rfl
@[simp] theorem State.raiseFlag_lines (s : State) f : (s.raiseFlag f).lines = s.lines := rfl
@[simp] theorem State.raiseFlag_stack (s : State) f : (s.raiseFlag f).stack = s.stack := rfl
@[simp] theorem State.raiseFlag_flags (s : State) f : (s.raiseFlag f).flags = s.flags ||| (1#10 <<< f.bit) := rfl
@[simp] theorem State.raiseFlag_quote (s : State) f : (s.raiseFlag f).quote = s.quote := rfl
@[simp] theorem State.raiseFlag_session (s : State) f : (s.raiseFlag f).session = s.session := rfl
@[simp] theorem State.raiseFlag_cred (s : State) f : (s.raiseFlag f).cred = s.cred := rfl
@[simp] theorem State.raiseFlag_log (s : State) f : (s.raiseFlag f).log = s.log := rfl
@[simp] theorem State.raiseFlag_fuses (s : State) f : (s.raiseFlag f).fuses = s.fuses := rfl
@[simp] theorem State.raiseFlag_store (s : State) f : (s.raiseFlag f).store = s.store := rfl
@[simp] theorem State.raiseFlag_scratch (s : State) f : (s.raiseFlag f).scratch = s.scratch := rfl
@[simp] theorem State.raiseFlag_job (s : State) f : (s.raiseFlag f).job = s.job := rfl
@[simp] theorem State.raiseFlag_write (s : State) f : (s.raiseFlag f).write = s.write := rfl
@[simp] theorem State.raiseFlag_pending (s : State) f : (s.raiseFlag f).pending = s.pending := rfl

/-! ### beginWrite -/

@[simp] theorem State.beginWrite_pins (s : State) w : (s.beginWrite w).pins = s.pins := rfl
@[simp] theorem State.beginWrite_host (s : State) w : (s.beginWrite w).host = s.host := rfl
@[simp] theorem State.beginWrite_port (s : State) w : (s.beginWrite w).port = s.port := rfl
@[simp] theorem State.beginWrite_classes (s : State) w : (s.beginWrite w).classes = s.classes := rfl
@[simp] theorem State.beginWrite_regions (s : State) w : (s.beginWrite w).regions = s.regions := rfl
@[simp] theorem State.beginWrite_window (s : State) w : (s.beginWrite w).window = s.window := rfl
@[simp] theorem State.beginWrite_boot (s : State) w : (s.beginWrite w).boot = s.boot := rfl
@[simp] theorem State.beginWrite_schedule (s : State) w : (s.beginWrite w).schedule = s.schedule := rfl
@[simp] theorem State.beginWrite_lines (s : State) w : (s.beginWrite w).lines = s.lines := rfl
@[simp] theorem State.beginWrite_stack (s : State) w : (s.beginWrite w).stack = s.stack := rfl
@[simp] theorem State.beginWrite_flags (s : State) w : (s.beginWrite w).flags = s.flags := rfl
@[simp] theorem State.beginWrite_quote (s : State) w : (s.beginWrite w).quote = s.quote := rfl
@[simp] theorem State.beginWrite_session (s : State) w : (s.beginWrite w).session = s.session := rfl
@[simp] theorem State.beginWrite_cred (s : State) w : (s.beginWrite w).cred = s.cred := rfl
@[simp] theorem State.beginWrite_log (s : State) w : (s.beginWrite w).log = s.log := rfl
@[simp] theorem State.beginWrite_fuses (s : State) w : (s.beginWrite w).fuses = s.fuses := rfl
@[simp] theorem State.beginWrite_store (s : State) w : (s.beginWrite w).store = s.store := rfl
@[simp] theorem State.beginWrite_scratch (s : State) w : (s.beginWrite w).scratch = s.scratch := rfl
@[simp] theorem State.beginWrite_job (s : State) w : (s.beginWrite w).job = s.job := rfl
@[simp] theorem State.beginWrite_write (s : State) w : (s.beginWrite w).write = some w := rfl
@[simp] theorem State.beginWrite_pending (s : State) w : (s.beginWrite w).pending = s.pending := rfl

/-! ### respond -/

@[simp] theorem State.respond_pins (s : State) st body : (s.respond st body).pins = s.pins := rfl
@[simp] theorem State.respond_host (s : State) st body : (s.respond st body).host = s.host := rfl
@[simp] theorem State.respond_port (s : State) st body : (s.respond st body).port = s.port := rfl
@[simp] theorem State.respond_classes (s : State) st body : (s.respond st body).classes = s.classes := rfl
@[simp] theorem State.respond_regions (s : State) st body : (s.respond st body).regions = s.regions := rfl
@[simp] theorem State.respond_window (s : State) st body : (s.respond st body).window = s.window.completed st body := rfl
@[simp] theorem State.respond_boot (s : State) st body : (s.respond st body).boot = s.boot := rfl
@[simp] theorem State.respond_schedule (s : State) st body : (s.respond st body).schedule = s.schedule := rfl
@[simp] theorem State.respond_lines (s : State) st body : (s.respond st body).lines = s.lines := rfl
@[simp] theorem State.respond_stack (s : State) st body : (s.respond st body).stack = s.stack := rfl
@[simp] theorem State.respond_flags (s : State) st body : (s.respond st body).flags = s.flags := rfl
@[simp] theorem State.respond_quote (s : State) st body : (s.respond st body).quote = s.quote := rfl
@[simp] theorem State.respond_session (s : State) st body : (s.respond st body).session = s.session := rfl
@[simp] theorem State.respond_cred (s : State) st body : (s.respond st body).cred = s.cred := rfl
@[simp] theorem State.respond_log (s : State) st body : (s.respond st body).log = s.log := rfl
@[simp] theorem State.respond_fuses (s : State) st body : (s.respond st body).fuses = s.fuses := rfl
@[simp] theorem State.respond_store (s : State) st body : (s.respond st body).store = s.store := rfl
@[simp] theorem State.respond_scratch (s : State) st body : (s.respond st body).scratch = s.scratch := rfl
@[simp] theorem State.respond_job (s : State) st body : (s.respond st body).job = s.job := rfl
@[simp] theorem State.respond_write (s : State) st body : (s.respond st body).write = s.write := rfl
@[simp] theorem State.respond_pending (s : State) st body : (s.respond st body).pending = s.pending := rfl

/-! ### takePort -/

@[simp] theorem State.takePort_pins (s : State) : (s.takePort).pins = s.pins := rfl
@[simp] theorem State.takePort_host (s : State) : (s.takePort).host = s.host := rfl
@[simp] theorem State.takePort_port (s : State) : (s.takePort).port = { s.port with owner := .engine } := rfl
@[simp] theorem State.takePort_classes (s : State) : (s.takePort).classes = s.classes := rfl
@[simp] theorem State.takePort_regions (s : State) : (s.takePort).regions = s.regions := rfl
@[simp] theorem State.takePort_window (s : State) : (s.takePort).window = s.window := rfl
@[simp] theorem State.takePort_boot (s : State) : (s.takePort).boot = s.boot := rfl
@[simp] theorem State.takePort_schedule (s : State) : (s.takePort).schedule = s.schedule := rfl
@[simp] theorem State.takePort_lines (s : State) : (s.takePort).lines = s.lines := rfl
@[simp] theorem State.takePort_stack (s : State) : (s.takePort).stack = s.stack := rfl
@[simp] theorem State.takePort_flags (s : State) : (s.takePort).flags = s.flags := rfl
@[simp] theorem State.takePort_quote (s : State) : (s.takePort).quote = s.quote := rfl
@[simp] theorem State.takePort_session (s : State) : (s.takePort).session = s.session := rfl
@[simp] theorem State.takePort_cred (s : State) : (s.takePort).cred = s.cred := rfl
@[simp] theorem State.takePort_log (s : State) : (s.takePort).log = s.log := rfl
@[simp] theorem State.takePort_fuses (s : State) : (s.takePort).fuses = s.fuses := rfl
@[simp] theorem State.takePort_store (s : State) : (s.takePort).store = s.store := rfl
@[simp] theorem State.takePort_scratch (s : State) : (s.takePort).scratch = s.scratch := rfl
@[simp] theorem State.takePort_job (s : State) : (s.takePort).job = s.job := rfl
@[simp] theorem State.takePort_write (s : State) : (s.takePort).write = s.write := rfl
@[simp] theorem State.takePort_pending (s : State) : (s.takePort).pending = s.pending := rfl

/-! ### returnPort -/

@[simp] theorem State.returnPort_pins (s : State) : (s.returnPort).pins = s.pins := rfl
@[simp] theorem State.returnPort_host (s : State) : (s.returnPort).host = s.host := rfl
@[simp] theorem State.returnPort_port (s : State) : (s.returnPort).port = { s.port with owner := .hostPass, openTx := .none } := rfl
@[simp] theorem State.returnPort_classes (s : State) : (s.returnPort).classes = s.classes := rfl
@[simp] theorem State.returnPort_regions (s : State) : (s.returnPort).regions = s.regions := rfl
@[simp] theorem State.returnPort_window (s : State) : (s.returnPort).window = s.window := rfl
@[simp] theorem State.returnPort_boot (s : State) : (s.returnPort).boot = s.boot := rfl
@[simp] theorem State.returnPort_schedule (s : State) : (s.returnPort).schedule = s.schedule := rfl
@[simp] theorem State.returnPort_lines (s : State) : (s.returnPort).lines = s.lines := rfl
@[simp] theorem State.returnPort_stack (s : State) : (s.returnPort).stack = s.stack := rfl
@[simp] theorem State.returnPort_flags (s : State) : (s.returnPort).flags = s.flags := rfl
@[simp] theorem State.returnPort_quote (s : State) : (s.returnPort).quote = s.quote := rfl
@[simp] theorem State.returnPort_session (s : State) : (s.returnPort).session = s.session := rfl
@[simp] theorem State.returnPort_cred (s : State) : (s.returnPort).cred = s.cred := rfl
@[simp] theorem State.returnPort_log (s : State) : (s.returnPort).log = s.log := rfl
@[simp] theorem State.returnPort_fuses (s : State) : (s.returnPort).fuses = s.fuses := rfl
@[simp] theorem State.returnPort_store (s : State) : (s.returnPort).store = s.store := rfl
@[simp] theorem State.returnPort_scratch (s : State) : (s.returnPort).scratch = s.scratch := rfl
@[simp] theorem State.returnPort_job (s : State) : (s.returnPort).job = s.job := rfl
@[simp] theorem State.returnPort_write (s : State) : (s.returnPort).write = s.write := rfl
@[simp] theorem State.returnPort_pending (s : State) : (s.returnPort).pending = s.pending := rfl

/-! ### setDecision -/

@[simp] theorem State.setDecision_pins (s : State) d : (s.setDecision d).pins = s.pins := rfl
@[simp] theorem State.setDecision_host (s : State) d : (s.setDecision d).host = { s.host with decision := some d } := rfl
@[simp] theorem State.setDecision_port (s : State) d : (s.setDecision d).port = s.port := rfl
@[simp] theorem State.setDecision_classes (s : State) d : (s.setDecision d).classes = s.classes := rfl
@[simp] theorem State.setDecision_regions (s : State) d : (s.setDecision d).regions = s.regions := rfl
@[simp] theorem State.setDecision_window (s : State) d : (s.setDecision d).window = s.window := rfl
@[simp] theorem State.setDecision_boot (s : State) d : (s.setDecision d).boot = s.boot := rfl
@[simp] theorem State.setDecision_schedule (s : State) d : (s.setDecision d).schedule = s.schedule := rfl
@[simp] theorem State.setDecision_lines (s : State) d : (s.setDecision d).lines = s.lines := rfl
@[simp] theorem State.setDecision_stack (s : State) d : (s.setDecision d).stack = s.stack := rfl
@[simp] theorem State.setDecision_flags (s : State) d : (s.setDecision d).flags = s.flags := rfl
@[simp] theorem State.setDecision_quote (s : State) d : (s.setDecision d).quote = s.quote := rfl
@[simp] theorem State.setDecision_session (s : State) d : (s.setDecision d).session = s.session := rfl
@[simp] theorem State.setDecision_cred (s : State) d : (s.setDecision d).cred = s.cred := rfl
@[simp] theorem State.setDecision_log (s : State) d : (s.setDecision d).log = s.log := rfl
@[simp] theorem State.setDecision_fuses (s : State) d : (s.setDecision d).fuses = s.fuses := rfl
@[simp] theorem State.setDecision_store (s : State) d : (s.setDecision d).store = s.store := rfl
@[simp] theorem State.setDecision_scratch (s : State) d : (s.setDecision d).scratch = s.scratch := rfl
@[simp] theorem State.setDecision_job (s : State) d : (s.setDecision d).job = s.job := rfl
@[simp] theorem State.setDecision_write (s : State) d : (s.setDecision d).write = s.write := rfl
@[simp] theorem State.setDecision_pending (s : State) d : (s.setDecision d).pending = s.pending := rfl

/-! ### openForwarded -/

@[simp] theorem State.openForwarded_pins (s : State) p : (s.openForwarded p).pins = s.pins := rfl
@[simp] theorem State.openForwarded_host (s : State) p : (s.openForwarded p).host = s.host := rfl
@[simp] theorem State.openForwarded_port (s : State) p : (s.openForwarded p).port = { s.port with
    openTx := .host (s.host.instr.getD 0) (s.host.entry.getD .startUp).lanes p none } := rfl
@[simp] theorem State.openForwarded_classes (s : State) p : (s.openForwarded p).classes = s.classes := rfl
@[simp] theorem State.openForwarded_regions (s : State) p : (s.openForwarded p).regions = s.regions := rfl
@[simp] theorem State.openForwarded_window (s : State) p : (s.openForwarded p).window = s.window := rfl
@[simp] theorem State.openForwarded_boot (s : State) p : (s.openForwarded p).boot = s.boot := rfl
@[simp] theorem State.openForwarded_schedule (s : State) p : (s.openForwarded p).schedule = s.schedule := rfl
@[simp] theorem State.openForwarded_lines (s : State) p : (s.openForwarded p).lines = s.lines := rfl
@[simp] theorem State.openForwarded_stack (s : State) p : (s.openForwarded p).stack = s.stack := rfl
@[simp] theorem State.openForwarded_flags (s : State) p : (s.openForwarded p).flags = s.flags := rfl
@[simp] theorem State.openForwarded_quote (s : State) p : (s.openForwarded p).quote = s.quote := rfl
@[simp] theorem State.openForwarded_session (s : State) p : (s.openForwarded p).session = s.session := rfl
@[simp] theorem State.openForwarded_cred (s : State) p : (s.openForwarded p).cred = s.cred := rfl
@[simp] theorem State.openForwarded_log (s : State) p : (s.openForwarded p).log = s.log := rfl
@[simp] theorem State.openForwarded_fuses (s : State) p : (s.openForwarded p).fuses = s.fuses := rfl
@[simp] theorem State.openForwarded_store (s : State) p : (s.openForwarded p).store = s.store := rfl
@[simp] theorem State.openForwarded_scratch (s : State) p : (s.openForwarded p).scratch = s.scratch := rfl
@[simp] theorem State.openForwarded_job (s : State) p : (s.openForwarded p).job = s.job := rfl
@[simp] theorem State.openForwarded_write (s : State) p : (s.openForwarded p).write = s.write := rfl
@[simp] theorem State.openForwarded_pending (s : State) p : (s.openForwarded p).pending = s.pending := rfl

/-! ### setSlots -/

@[simp] theorem State.setSlots_pins (s : State) v : (s.setSlots v).pins = s.pins := rfl
@[simp] theorem State.setSlots_host (s : State) v : (s.setSlots v).host = s.host := rfl
@[simp] theorem State.setSlots_port (s : State) v : (s.setSlots v).port = s.port := rfl
@[simp] theorem State.setSlots_classes (s : State) v : (s.setSlots v).classes = s.classes := rfl
@[simp] theorem State.setSlots_regions (s : State) v : (s.setSlots v).regions = s.regions := rfl
@[simp] theorem State.setSlots_window (s : State) v : (s.setSlots v).window = s.window := rfl
@[simp] theorem State.setSlots_boot (s : State) v : (s.setSlots v).boot = s.boot := rfl
@[simp] theorem State.setSlots_schedule (s : State) v : (s.setSlots v).schedule = s.schedule := rfl
@[simp] theorem State.setSlots_lines (s : State) v : (s.setSlots v).lines = s.lines := rfl
@[simp] theorem State.setSlots_stack (s : State) v : (s.setSlots v).stack = s.stack := rfl
@[simp] theorem State.setSlots_flags (s : State) v : (s.setSlots v).flags = s.flags := rfl
@[simp] theorem State.setSlots_quote (s : State) v : (s.setSlots v).quote = s.quote := rfl
@[simp] theorem State.setSlots_session (s : State) v : (s.setSlots v).session = s.session := rfl
@[simp] theorem State.setSlots_cred (s : State) v : (s.setSlots v).cred = s.cred := rfl
@[simp] theorem State.setSlots_log (s : State) v : (s.setSlots v).log = s.log := rfl
@[simp] theorem State.setSlots_fuses (s : State) v : (s.setSlots v).fuses = s.fuses := rfl
@[simp] theorem State.setSlots_store (s : State) v : (s.setSlots v).store = { s.store with slots := v } := rfl
@[simp] theorem State.setSlots_scratch (s : State) v : (s.setSlots v).scratch = s.scratch := rfl
@[simp] theorem State.setSlots_job (s : State) v : (s.setSlots v).job = s.job := rfl
@[simp] theorem State.setSlots_write (s : State) v : (s.setSlots v).write = s.write := rfl
@[simp] theorem State.setSlots_pending (s : State) v : (s.setSlots v).pending = s.pending := rfl

/-! ### One of L1 to L4 -/

/-- What each of L1 to L4 is after one of them has been replaced. -/
@[simp] theorem State.setCtl_get (s : State) (i j : Fin 4) (c : CtlLine) :
    (s.setCtl i c).lines.ctl.get j = if i = j then c else s.lines.ctl.get j := by
  simp only [State.setCtl, State.setLines, Vector.get_eq_getElem, Vector.getElem_set, Fin.ext_iff]

end Sys2Proof.Machine
end

