-- ==== Sys2Proof/Laws/Actions.lean ====
section
/-! SUPPORT. What each shared operation can do, said once: taking a request, actions, the sequence, the watch list,
logging an incident, the Host Port's bytes and addresses, the engine's turn, a held part, a fifth attempt and the end
of a confirm. -/

namespace Sys2Proof.Machine

/-! ## Flow -/

@[simp] theorem Flow.on_andThen (s : State) (f : State → Flow) : (Flow.on s).andThen f = f s := rfl
@[simp] theorem Flow.restarted_andThen (s : State) (f : State → Flow) :
    (Flow.restarted s).andThen f = .restarted s := rfl
@[simp] theorem Flow.on_state (s : State) : (Flow.on s).state = s := rfl
@[simp] theorem Flow.restarted_state (s : State) : (Flow.restarted s).state = s := rfl
@[simp] theorem Flow.result_eq (f : Flow) : f.result = .next f.state := rfl

/-! ## Taking a request -/

/-- What an offered request is taken with. -/
theorem takeRequest_of_offers {r : Request} {s : State} (h : s.offers r = true)
    (owner : Bytes → State → Result) :
    takeRequest r s owner
      = owner s.window.requestBody (s.setWindow { s.window with dispatched := none }) := by
  simp [State.offers] at h
  simp [takeRequest, h]

/-- A request that is not offered is not taken; while the part does not run it changes nothing. -/
theorem takeRequest_next {r : Request} {s t : State} {owner : Bytes → State → Result}
    (h : takeRequest r s owner = .next t) :
    (s.alive = false ∧ t = s) ∨
      (s.offers r = true ∧
        owner s.window.requestBody (s.setWindow { s.window with dispatched := none }) = .next t) := by
  unfold takeRequest at h
  split at h
  · split at h
    · rename_i ha hd
      exact .inr ⟨by simp [State.offers, ha, hd], h⟩
    · cases h
  · rename_i ha
    cases h
    exact .inl ⟨by simpa using ha, rfl⟩

/-- A response does not depend on the mark that its request was dispatched. -/
@[simp] theorem completed_dispatched (w : Window) (d : Option Request) (status : Status) (body : Bytes) :
    ({ w with dispatched := d } : Window).completed status body = w.completed status body := rfl

theorem withBooted_of {s : State} {b : Booted} (h : s.boot.outcome = .booted b)
    (owner : Booted → Result) : withBooted s owner = owner b := by
  simp [withBooted, State.booted, h]

theorem withBooted_next {s t : State} {owner : Booted → Result} (h : withBooted s owner = .next t) :
    ∃ b, s.boot.outcome = .booted b ∧ owner b = .next t := by
  unfold withBooted State.booted at h
  cases hb : s.boot.outcome with
  | booted b => rw [hb] at h; exact ⟨b, rfl, h⟩
  | absent => rw [hb] at h; cases h
  | halted => rw [hb] at h; cases h

/-! ## Actions, the sequence and the watch list -/

/-- `t` is `s` after actions none of which was a REBOOT: nothing but the lines, the store's state and FROZEN,
tightening and the schedule has changed, each only as actions can change it. -/
structure Acted (s t : State) : Prop where
  frame : t = { s with lines := t.lines, cred := t.cred, regions := t.regions, schedule := t.schedule }
  l0 : t.lines.l0Asserted = s.lines.l0Asserted
  l5 : t.lines.l5 = s.lines.l5
  attempts : t.cred.attempts = s.cred.attempts
  store : t.cred.state = s.cred.state ∨ (s.cred.state = .unlocked ∧ t.cred.state = .locked)
  frozen : s.cred.frozen = true → t.cred.frozen = true
  table : t.regions.defaultRule = s.regions.defaultRule
  records : ∀ (i : Nat) (r' : RegionRecord), t.regions.records[i]? = some r' →
    ∃ r : RegionRecord, s.regions.records[i]? = some r ∧
    r.tight.rank ≤ r'.tight.rank ∧ r' = { r with tight := r'.tight }

theorem Acted.refl (s : State) : Acted s s :=
  ⟨rfl, rfl, rfl, rfl, .inl rfl, id, rfl, fun _ r h => ⟨r, h, le_refl _, rfl⟩⟩

theorem Acted.trans {s t u : State} (h : Acted s t) (k : Acted t u) : Acted s u where
  frame := by rw [k.frame, h.frame]
  l0 := k.l0.trans h.l0
  l5 := k.l5.trans h.l5
  attempts := k.attempts.trans h.attempts
  store := by
    rcases k.store with k | ⟨k, k'⟩ <;> rcases h.store with h | ⟨h, h'⟩ <;> simp_all
  frozen := fun x => k.frozen (h.frozen x)
  table := k.table.trans h.table
  records := fun i r' x => by
    obtain ⟨q, hq, hr, he⟩ := k.records i r' x
    obtain ⟨r, hr0, hr1, he1⟩ := h.records i q hq
    exact ⟨r, hr0, hr1.trans hr, by rw [he, he1]⟩

/-- A change of the schedule alone is one that actions can make. -/
theorem Acted.setSchedule (s : State) (c : Schedule) : Acted s (s.setSchedule c) :=
  ⟨rfl, rfl, rfl, rfl, .inl rfl, id, rfl, fun _ r h => ⟨r, h, le_refl _, rfl⟩⟩

theorem Acted.setTightening (s : State) (i : Nat) (level : Tightening)
    (h : ∀ r, s.regions.records[i]? = some r → r.tight.rank ≤ level.rank) :
    Acted s (s.setTightening i level) := by
  refine ⟨rfl, rfl, rfl, rfl, .inl rfl, id, rfl, fun j r' x => ?_⟩
  simp only [State.setTightening, State.setRegions_regions, List.getElem?_modify] at x
  cases hj : s.regions.records[j]? with
  | none => rw [hj] at x; simp at x
  | some r =>
    rw [hj] at x
    refine ⟨r, rfl, ?_⟩
    by_cases hij : i = j
    · subst hij
      simp at x
      subst x
      exact ⟨h r hj, rfl⟩
    · simp [hij] at x
      subst x
      exact ⟨le_refl _, rfl⟩

theorem Acted.tighten (s : State) (i : Nat) (level : Tightening) : Acted s (s.tighten i level) := by
  unfold State.tighten
  split
  · split
    · rename_i r hr hlt
      exact Acted.setTightening s i level fun q hq => by
        rw [hr] at hq
        cases hq
        exact hlt.le
    · exact .refl s
  · exact .refl s

/-- One action either goes on having changed what actions change, or begins a WARM_SCHEDULE start. -/
theorem runAction_spec (s : State) (a : Action) :
    (∃ t, runAction s a = .on t ∧ Acted s t) ∨ runAction s a = .restarted (s.beginStart .warmSchedule) := by
  cases a with
  | lineSet line asserted =>
    refine .inl ⟨_, rfl, ?_⟩
    unfold State.lineSet
    split
    · exact ⟨rfl, rfl, rfl, rfl, .inl rfl, id, rfl, fun _ r h => ⟨r, h, le_refl _, rfl⟩⟩
    · exact .refl s
  | freezeStore =>
    exact .inl ⟨_, rfl, rfl, rfl, rfl, rfl, .inl rfl, fun _ => rfl, rfl,
      fun _ r h => ⟨r, h, le_refl _, rfl⟩⟩
  | lockStore =>
    refine .inl ⟨_, rfl, rfl, rfl, rfl, ?_, ?_, ?_, rfl, fun _ r h => ⟨r, h, le_refl _, rfl⟩⟩ <;>
      · simp only [State.setCred_cred, CredStore.locked]
        split <;> simp_all
  | tighten i level => exact .inl ⟨_, rfl, .tighten s i level⟩
  | deadlineStart n => exact .inl ⟨_, rfl, .setSchedule s _⟩
  | deadlineStop => exact .inl ⟨_, rfl, .setSchedule s _⟩
  | reboot => exact .inr rfl

/-- What a flow of actions from `s` can be: it goes on having changed what actions change, or an action has begun a
WARM_SCHEDULE start. -/
def ActedFlow (s : State) (f : Flow) : Prop :=
  (∃ t, f = .on t ∧ Acted s t) ∨ ∃ u, f = .restarted (u.beginStart .warmSchedule) ∧ Acted s u

theorem ActedFlow.on {s t : State} (h : Acted s t) : ActedFlow s (.on t) :=
  .inl ⟨t, rfl, h⟩

theorem ActedFlow.andThen {s : State} {f : Flow} {next : State → Flow} (h : ActedFlow s f)
    (k : ∀ t, f = .on t → Acted s t → ActedFlow t (next t)) : ActedFlow s (f.andThen next) := by
  rcases h with ⟨t, rfl, h⟩ | ⟨u, rfl, h⟩
  · rcases k t rfl h with ⟨v, hv, k⟩ | ⟨v, hv, k⟩
    · exact .inl ⟨v, hv, h.trans k⟩
    · exact .inr ⟨v, hv, h.trans k⟩
  · exact .inr ⟨u, rfl, h⟩

theorem runActions_spec (actions : List Action) : ∀ s : State, ActedFlow s (runActions s actions) := by
  induction actions with
  | nil => exact fun s => .on (.refl s)
  | cons a rest ih =>
    intro s
    refine ActedFlow.andThen ?_ fun t _ _ => ih t
    rcases runAction_spec s a with h | h
    · exact .inl h
    · exact .inr ⟨s, h, .refl s⟩

/-- What a trigger offered to the sequence can do. -/
theorem offerSequence_spec (trigger : SeqTrigger) (s : State) :
    ActedFlow s (offerSequence trigger s) := by
  unfold offerSequence
  split
  · split
    · exact (runActions_spec _ s).andThen fun t _ _ => .on (.setSchedule t _)
    · exact .on (.refl s)
  · exact .on (.refl s)

/-- A trigger that the waiting entry does not name is discarded. -/
theorem offerSequence_discards {trigger : SeqTrigger} {s : State}
    (h : ∀ e, s.schedule.waiting = some e → e.trigger ≠ trigger) : offerSequence trigger s = .on s := by
  unfold offerSequence
  split
  · rename_i e he
    rw [if_neg (h e he)]
  · rfl

theorem fireFrom_spec (trigger : WatchTrigger) (entries : List WatchEntry) :
    ∀ (index : Nat) (s : State), ActedFlow s (fireFrom trigger index entries s) := by
  induction entries with
  | nil => exact fun _ s => .on (.refl s)
  | cons e rest ih =>
    intro index s
    unfold fireFrom
    split
    · have h : ActedFlow s (runActions (s.markFired index) e.actions) := by
        rcases runActions_spec e.actions (s.markFired index) with ⟨t, ht, h⟩ | ⟨u, hu, h⟩
        · exact .inl ⟨t, ht, (Acted.setSchedule s _).trans h⟩
        · exact .inr ⟨u, hu, (Acted.setSchedule s _).trans h⟩
      exact h.andThen fun t _ _ => ih _ t
    · exact ih _ s

/-- What a trigger that arrives at the watch list can do. -/
theorem fireWatch_spec (trigger : WatchTrigger) (s : State) : ActedFlow s (fireWatch trigger s) :=
  fireFrom_spec trigger _ 0 s

theorem fireFrom_discards {trigger : WatchTrigger} {entries : List WatchEntry}
    (h : ∀ e ∈ entries, e.trigger ≠ trigger) :
    ∀ (index : Nat) (s : State), fireFrom trigger index entries s = .on s := by
  induction entries with
  | nil => exact fun _ _ => rfl
  | cons e rest ih =>
    intro index s
    have he : e.firesOn trigger = false := by simp [WatchEntry.firesOn, h e (by simp)]
    simp only [fireFrom, he, Bool.false_eq_true, if_false]
    exact ih (fun x hx => h x (by simp [hx])) _ s

/-- A trigger that no watch entry names is discarded. -/
theorem fireWatch_discards {trigger : WatchTrigger} {s : State}
    (h : ∀ e ∈ s.schedule.watch, e.trigger ≠ trigger) : fireWatch trigger s = .on s :=
  fireFrom_discards h 0 s

/-! ## Logging an incident -/

/-- What logging an incident can do: it records it, with INCIDENT_THRESHOLD where the threshold is reached, and the
watch list may act. -/
theorem logIncident_spec (i : Incident) (s : State) :
    logIncident i s = .on (s.recordIncident i) ∨
      ActedFlow ((s.recordIncident i).raiseFlag .incidentThreshold) (logIncident i s) := by
  unfold logIncident
  split
  · exact .inr (fireWatch_spec _ _)
  · exact .inl rfl

/-- Where no threshold is reached the incident is recorded and nothing else happens. -/
theorem logIncident_quiet {i : Incident} {s : State} (h : s.quiet i.kind = true) :
    logIncident i s = .on (s.recordIncident i) := by
  simp only [State.quiet, Bool.not_eq_true'] at h
  simp [logIncident, h]

/-- Whether a kind is quiet depends on the log alone. -/
theorem quiet_of_log {s t : State} (h : t.log = s.log) (k : IncidentKind) : t.quiet k = s.quiet k := by
  simp [State.quiet, h]

/-! ## Host Port bytes and addresses -/

theorem onInstruction_awaits {s : State} (h : s.awaitsInstruction = true)
    {admitted : InstrClass → Bool} {b : Byte} (ha : admitted (s.classify b).cls = true)
    (go : State → Result) : onInstruction admitted b s go = go (s.takeByte b) := by
  simp [State.awaitsInstruction] at h
  simp [onInstruction, h, ha]

theorem onAddress_awaits {s : State} {e : ClassEntry} {address : Bytes}
    (h : s.awaitsAddress e address = true) (go : ClassEntry → Nat → State → Result) :
    onAddress e.cls address s go
      = go e (ofBe address % s.flashSize)
          (s.setHost { s.host with
            addrBytes := address, addr := some (ofBe address % s.flashSize), phase := e.afterAddress }) := by
  simp [State.awaitsAddress] at h
  obtain ⟨⟨⟨h1, h2⟩, h3⟩, h4⟩ := h
  simp [onAddress, h1, h2, h3, h4]

/-- A byte the host sends changes the transaction record alone, and of it the phase, the address bytes and the dummy
count alone. -/
theorem sent_spec (s : State) (e : ClassEntry) (b : Byte) :
    s.sent e b = s.setHost { s.host with
      phase := (s.sent e b).host.phase
      addrBytes := (s.sent e b).host.addrBytes
      dummyCount := (s.sent e b).host.dummyCount } := by
  unfold State.sent
  split <;> rfl

/-- A byte the host reads changes the phase and the dummy count alone. -/
theorem read_spec (s : State) (e : ClassEntry) :
    s.read e = s.setHost { s.host with
      phase := (s.read e).host.phase, dummyCount := (s.read e).host.dummyCount } := by
  unfold State.read
  split <;> rfl

/-- A byte the host reads moves the phase out of the dummy phase only. -/
theorem read_phase (s : State) (e : ClassEntry) (h : s.host.phase ≠ .dummy) : s.read e = s := by
  unfold State.read
  split <;> simp_all

/-- A byte the host sends outside the address and dummy phases changes nothing of the record. -/
theorem sent_phase (s : State) (e : ClassEntry) (b : Byte) (ha : s.host.phase ≠ .address)
    (hd : s.host.phase ≠ .dummy) : s.sent e b = s := by
  unfold State.sent
  split <;> simp_all

/-! ## Breaks of frame assembly -/

/-- A break after the program's first is not logged (R54). -/
theorem logBreak_again {s : State} (h : s.host.breakLogged = true) (detail : Byte) :
    logBreak detail s = .on s := by
  simp [logBreak, h]

/-- A program's first break is logged, and marked; no threshold is reached (R54). -/
theorem logBreak_quiet {s : State} (h : s.host.breakLogged = false) (hq : s.quiet .frameBad = true)
    (detail : Byte) :
    logBreak detail s = .on
      ((s.setHost { s.host with breakLogged := true }).recordIncident (s.windowIncident .frameBad detail)) := by
  simp only [logBreak, h, Bool.false_eq_true, if_false]
  exact logIncident_quiet ((quiet_of_log (by rfl) _).trans hq)

/-! ## The engine's turn -/

/-- While a transaction is open at the Flash Port the engine waits. -/
theorem engineTurn_open {s : State} (h : s.port.openTx ≠ .none) : s.engineTurn = s := by
  unfold State.engineTurn
  split
  · rfl
  · split <;> simp_all

/-- While the host's transaction may still be forwarded the engine waits (assumption 25). -/
theorem engineTurn_mayForward {s : State} (h : s.host.mayForward = true) : s.engineTurn = s := by
  simp [State.engineTurn, h]

/-- The engine's turn changes the Flash Port's open transaction at most, and opens nothing of the host's. -/
theorem engineTurn_spec (s : State) :
    s.engineTurn = s.setPort { s.port with openTx := s.engineTurn.port.openTx } ∧
      (s.engineTurn.port.openTx.forwarded = true → s.engineTurn = s) := by
  unfold State.engineTurn
  split
  · exact ⟨rfl, fun _ => rfl⟩
  · split <;> exact ⟨rfl, by simp [OpenTransaction.forwarded]⟩

/-! ## What a held part, a fifth attempt and a confirm come to -/

/-- A settling expiry while the part does not run changes L5's sensing at most (R106). -/
theorem settleWhileHeld_spec (line : Line) (s : State) :
    settleWhileHeld line s = s.setL5 (settleWhileHeld line s).lines.l5 := by
  cases line <;> first | rfl | (simp only [settleWhileHeld]; split <;> rfl)

/-- Below five attempts used nothing follows a failed attempt (R165). -/
theorem lockoutIfFive_below {s : State} (h : s.cred.attempts ≠ 5) : lockoutIfFive s = .on s := by
  simp [lockoutIfFive, h]

/-- At five LOCKOUT is raised over the locked-out store (R165 item 4). -/
theorem lockoutIfFive_at {s : State} (h : s.cred.attempts = 5) :
    lockoutIfFive s =
      fireWatch .lockout ((s.setCred { s.cred with state := .lockedOut }).raiseFlag .unlockLockout) := by
  simp [lockoutIfFive, h]

/-- Where no entry waits for CONFIRMED a confirm ends with the deadline stopped and its OK answer (R158). -/
theorem finishConfirm_discards {s : State} (c : ConfirmSteps)
    (h : ∀ w, s.schedule.waiting = some w → w.trigger ≠ .confirmed) :
    finishConfirm c s = .on ((s.setDeadline .stopped).respond .ok (s.confirmBody c)) := by
  have hs : offerSequence .confirmed (s.setDeadline .stopped) = .on (s.setDeadline .stopped) :=
    offerSequence_discards h
  simp only [finishConfirm, hs, Flow.on_andThen]
  rfl

/-- The steps byte is made of the three bits the statements name (section 11.4). -/
theorem ConfirmSteps.byte_eq (c : ConfirmSteps) :
    c.byte = stepBits c.slotState c.epoch c.revocation := by
  obtain ⟨a, b, r⟩ := c
  cases a <;> cases b <;> cases r <;> decide

end Sys2Proof.Machine
end

