-- ==== Sys2Proof/Tests/Slice0.lean ====
section
/-! SUPPORT. The tests: well-formedness, published values of the algorithms, one step at a time on a small running
part, and for every statement with hypotheses a state that meets them. Expected values come from the manual's
tables and worked sequences, or from the published test vectors named at each test. -/

namespace Sys2Proof.Tests

set_option Elab.async false

open Sys2Proof Sys2Proof.Machine

/-! ## Well-formedness: an ill-formed term for each check -/

theorem test_wf_address_too_short : (Instr.read [0, 0]).wf = false := by decide
theorem test_wf_address_too_long : (Instr.erase64k [0, 0, 0, 0, 0]).wf = false := by decide
theorem test_wf_addresses : ((Instr.program [0, 0, 0]).wf && (Instr.erase4k [0, 0, 0, 0]).wf) = true := by
  decide
theorem test_wf_image_descending : (Instr.manifestCheckComplete [(5, 1), (4, 1)] []).wf = false := by
  decide
theorem test_wf_image_repeated : (Instr.stageCheckComplete [] [(5, 1), (5, 2)]).wf = false := by decide
theorem test_wf_line_l0 : (Instr.linePinChange .l0 true).wf = false := by decide
theorem test_wf_expiry_l0 : (Instr.lineSettlingExpiry .l0).wf = false := by decide

/-! ## The algorithms -/

/-- 00_scope, Algorithms: over "123456789" the frame check gives 0x29B1. -/
theorem test_frame_check :
    frameCheck [0x31, 0x32, 0x33, 0x34, 0x35, 0x36, 0x37, 0x38, 0x39] = 0x29B1#16 := by decide +kernel

/-- FIPS 180-4's example "abc". -/
theorem test_sha256_abc : ofBe (sha256 [0x61, 0x62, 0x63])
    = 0xba7816bf8f01cfea414140de5dae2223b00361a396177a9cb410ff61f20015ad := by decide +kernel

/-- RFC 4231, test case 2: key "Jefe", data "what do ya want for nothing?". -/
theorem test_hmac_rfc4231 : ofBe (hmac [0x4a, 0x65, 0x66, 0x65]
    [0x77, 0x68, 0x61, 0x74, 0x20, 0x64, 0x6f, 0x20, 0x79, 0x61, 0x20, 0x77, 0x61, 0x6e, 0x74, 0x20,
     0x66, 0x6f, 0x72, 0x20, 0x6e, 0x6f, 0x74, 0x68, 0x69, 0x6e, 0x67, 0x3f])
    = 0x5bdcc146bf60754e6a042426089575c75a003f089d2739839dec58b964ec3843 := by decide +kernel

/-! ## A small running part

The fuses are those of reset. Record 0 is a RUNNING image, 1 the window, 2 an OWNER span, 3 the SPARE view of
record 0's areas, 4 an OPEN span. L1 is an INPUT, L2 a HOST_OUT, L3 a SCHEDULE_OUT, L4 unused. -/

def classRow (byte : Byte) (cls : InstrClass) (addrLen : Nat) : ClassRow :=
  { byte := byte, entry := { cls := cls, addrLen := addrLen, dummy := 0, lanes := 1 } }

def classes : List ClassRow :=
  [classRow 0x02 .program 3, classRow 0x03 .read 3, classRow 0x04 .writeDisable 0,
   classRow 0x05 .statusRead 0, classRow 0x06 .writeEnable 0, classRow 0x20 .erase4k 3,
   classRow 0x52 .erase32k 3, classRow 0x9F .pass 0, classRow 0xC7 .eraseAll 0,
   classRow 0xD8 .erase64k 3]

def record (base limit : Nat) (rule : Rule) (view : View) (pa pb : Nat) : RegionRecord :=
  { base := base, limit := limit, rule := rule, view := view, pa := pa, pb := pb, measured := false,
    tight := .none }

def records : List RegionRecord :=
  [record 0x000000 0x010000 .readOnly .running 0x100000 0x200000,
   record 0x010000 0x012000 .mailbox .none 0 0,
   record 0x020000 0x030000 .owner .none 0 0,
   record 0x100000 0x110000 .spare .spare 0x100000 0x200000,
   record 0x300000 0x310000 .openAll .none 0 0]

def params : Params :=
  { keyIndex := 0, securityVersion := 70, imageVersion := 1, revokeOther := true, overflow := .fold,
    digests := [] }

def booted : Booted :=
  { verdict := .normal, running := .a, target := .b, params := params }

def released : Sense := { pinHigh := true, settled := some false, timer := false }

def ctl (role : LineRole) (driven : Option Bool) : CtlLine :=
  { role := some role, polarity := .activeLow, driven := driven, sense := released }

def lines : LineUnit :=
  { l0Asserted := false
    ctl := #v[ctl .input none, ctl .hostOut (some true), ctl .scheduleOut (some true), ctl .unused none]
    l5 := released }

def running : State :=
  { State.reset with
    port := { owner := .hostPass, openTx := .none, readyPoll := pollOf classes }
    classes := classes
    regions := { defaultRule := .readOnly, records := records }
    boot := { phase := .running, cause := .coldPower, rejected := [], outcome := .booted booted
              sample := some false }
    lines := lines
    quote := { counter := 0, startEpoch := some 0 }
    stack := { Stack.start with top := 3 }
    write := none }

/-- The running part under another verdict. -/
def runningAs (verdict : Verdict) (slot : RunSlot) (target : Slot) : State :=
  running.setBoot { running.boot with
    outcome := .booted { booted with verdict := verdict, running := slot, target := target } }

/-- A request's frame dispatched to its owner: tag 0, its body, and a check that has been examined. -/
def offering (s : State) (r : Request) (body : Bytes) : State :=
  s.setWindow
    { Window.start with
      state := .executing
      buffer := requestMagic ++ [r.code, 0, 0] ++ le 2 body.length ++ body ++ [0, 0]
      header := some { magic := requestMagic, code := r.code, tag := 0, bodyLength := body.length }
      frameLength := some (body.length + 10)
      response := { ResponseFrame.idle with code := r.code, status := .busy }
      dispatched := some r }

/-- Whether a step completes. -/
def completes : Result → Bool
  | .next _ => true
  | .fault _ => false
  | .refused _ => false

theorem completes_next {r : Result} (h : completes r = true) : ∃ t, r = .next t := by
  cases r with
  | next t => exact ⟨t, rfl⟩
  | fault f => cases h
  | refused f => cases h

/-- A test of the state a step leaves. -/
def leaves (r : Result) (p : State → Bool) : Bool :=
  match r with
  | .next t => p t
  | .fault _ => false
  | .refused _ => false

/-! ## The table gives no row any bits -/

theorem test_no_word_spells_a_command : decodeTableWord 8 0 = none := by decide

/-! ## Queue, starts and pins -/

theorem witness_StepRunsTheFrontCommand : { running with pending := [.supplyFall] }.pending = .supplyFall :: [] :=
  rfl

theorem witness_QueueAndIdleStep :
    completes (exec .supplyFall running) = true ∧ running.pending = [] ∧ running.alive = true ∧
      running.schedule.deadline = .stopped ∧
      (running.setSchedule { running.schedule with deadline := .running 1 }).schedule.deadline
        = .running 1 := by decide +kernel

/-- R102: the last second ends by DEADLINE_EXPIRY, not by an idle step. -/
theorem test_idle_second : leaves (step (running.setSchedule { running.schedule with deadline := .running 300 }))
    (fun t => decide (t.schedule.deadline = .running 299)) = true := by decide +kernel

def dark : State := running.setPins { running.pins with supply := false }
def held : State := running.setPins { running.pins with resetAsserted := true }

def counting (n : Nat) : State := running.setSchedule { running.schedule with deadline := .running n }

theorem witness_StartsAndTheirPins :
    (dark.pins.supply = false ∧ dark.pins.resetAsserted = false) ∧
    (held.pins.supply = true ∧ held.pins.resetAsserted = true) ∧
    (offering running .reboot []).offers .reboot = true ∧
    (∀ n ∈ [0, 1, 2, 65535],
      (counting n).alive = true ∧ (counting n).schedule.deadline = .running n) ∧
    (running.alive = true ∧ running.schedule.deadline = .stopped) ∧
    (running.pins.supply = true ∧ running.pins.resetAsserted = false) ∧
    (dark.setPins { dark.pins with resetAsserted := true }).pins.supply = false ∧
    (held.alive = false ∧ Source.of .engineGranuleErase = .part ∧ Source.of .getStatus = .part) ∧
    (Source.of (.read [0, 0, 0]) = .host ∧ Source.of (.deny 0) = .host) := by decide +kernel

/-- R68: what was in progress has ended while RESET_N is held, and its step changes nothing. -/
theorem test_held_part_does_nothing :
    leaves (exec .writeTakesEffect (held.setWrite (some .failedTotal)))
      (fun t => decide (t = held.setWrite (some .failedTotal))) = true ∧
    leaves (exec .getStatus (offering held .getStatus []))
      (fun t => decide (t.window.state = .executing)) = true := by decide +kernel

/-- R103: a deadline started anew before its expiry is handled runs on with the new time. -/
theorem test_deadline_runs_on : leaves (exec .deadlineExpiry (counting 600))
    (fun t => decide (t = counting 600)) = true := by decide +kernel

/-- Section 4.1: a start by the deadline keeps the ring and holds the host. -/
theorem test_deadline_starts : leaves (exec .deadlineExpiry (counting 1))
    (fun t => t.lines.l0Asserted && decide (t.boot.cause = .warmDeadline) && decide (t.log.ring.length = 1)
      && decide (t.classes = [])) = true := by decide +kernel

/-! ## Selection -/

def selecting : State := State.reset.setWrite none

def sampled (asserted : Bool) (s : State) : State := s.setBoot { s.boot with sample := some asserted }

theorem witness_WritesOfAStart :
    (State.reset.alive = true ∧ State.reset.write = some .bootCount ∧ State.reset.boot.phase = .selecting ∧
      State.reset.fuses.usable = true ∧ State.reset.port.readyPoll = none ∧ State.reset.port.openTx = .none ∧
      State.reset.host.mayForward = false ∧ State.reset.job = .idle ∧ State.reset.boot.sample = none ∧
      ∀ asserted, (sampled asserted State.reset).boot.sample = some asserted) ∧
    (State.reset.setPort { State.reset.port with readyPoll := pollOf classes }).port.readyPoll.isSome = true ∧
    ({ Fuses.reset with recoveryLimit := 0xFFFFFF }.usable = false ∧
      { Fuses.reset with sizeExponent := 29 }.usable = false) ∧
    (∀ expired, (State.reset.setWrite (some (.revertCount .b expired))).quiet .trialExpired = true) ∧
    ((State.reset.setWrite (some (.trialDecrement .b))).alive = true ∧
      (State.reset.setWrite (some (.pendingCleared .b false))).alive = true) := by decide +kernel

/-- R78: a committed slot that is already rejected is passed over; with the other rejected too, recovery is next. -/
theorem test_revert_past_rejected :
    leaves (exec .writeTakesEffect ((State.reset.setWrite (some (.revertCount .a false))).setBoot
        { State.reset.boot with rejected := [.a] }))
      (fun t => decide (t.job = .selectCheck .other)) = true ∧
    leaves (exec .writeTakesEffect ((State.reset.setWrite (some (.revertCount .a false))).setBoot
        { State.reset.boot with rejected := [.b, .a] }))
      (fun t => decide (t.job = .selectCheck .recovery)) = true := by decide +kernel

theorem witness_SelectionBeginsWithTheSample :
    selecting.alive = true ∧ selecting.boot.phase = .selecting ∧ selecting.lines.l5.settled = none ∧
      selecting.lines.l5.timer = true ∧ selecting.job = .idle ∧ selecting.write = none ∧
      selecting.lines.l5.pinHigh = true ∧ selecting.store.slots.pending = none := by decide +kernel

/-- The worked sequence of section 4.7: with a pending slot and trials left, selection begins with its trial. -/
theorem test_pending_slot_is_tried : leaves (exec (.lineSettlingExpiry .l5)
      (selecting.setSlots { committed := .a, pending := some .b, trials := 3 }))
    (fun t => decide (t.write = some (.trialDecrement .b))) = true := by decide +kernel

/-- R75: a low level of L5 requests recovery, and a pending slot is not tried. -/
theorem test_button_requests_recovery : leaves (exec (.lineSettlingExpiry .l5)
      ((selecting.setSlots { committed := .a, pending := some .b, trials := 3 }).setLines
        { selecting.lines with l5 := { selecting.lines.l5 with pinHigh := false } }))
    (fun t => decide (t.job = .selectCheck .recovery) && decide (t.flags = 8)) = true := by decide +kernel

def checking (step : SelectStep) : State := selecting.setJob (.selectCheck step)

/-- Erased flash has no manifest: each step's check fails at its header (R82). -/
theorem witness_RejectedManifestIsRecorded :
    ∀ step ∈ [SelectStep.pending .b, .committed, .other, .recovery],
      (checking step).alive = true ∧ (checking step).boot.phase = .selecting ∧
      (checking step).job = .selectCheck step ∧ (checking step).quiet .manifestRejected = true ∧
      manifestCheck (checking step).fuses ((checking step).checkInput step) [] []
        = .fail .header 0xFF 0 := by decide +kernel

/-! ### A manifest that passes

The manifest of slot A, 236 bytes: five classes and the window, signed with the private key 1 and the
per-signature value 1, so that the public key is the base point and r its first coordinate. -/

def pointX : Nat := 0x6B17D1F2E12C4247F8BCE6E563A440F277037D812DEB33A0F4A13945D898C296
def pointY : Nat := 0x4FE342E2FE1A7F9B8EE7EB4A7C0F9E162BCE33576B315ECECBB6406837BF51F5

def manifestBody : Bytes :=
  manifestMagic ++ le 2 1 ++ [1, 0] ++ le 2 236 ++ le 2 7 ++ le 4 1 ++ [0, 2, 1, 5, 1, 0, 0, 0]
    ++ be 32 pointX ++ be 32 pointY ++ List.replicate 12 0 ++ List.replicate 28 0
    ++ [0x02, 2, 3, 0, 1, 0x03, 1, 3, 0, 1, 0x05, 9, 0, 0, 1, 0x06, 7, 0, 0, 1, 0x20, 3, 3, 0, 1]
    ++ le 4 0x010000 ++ le 4 0x012000 ++ le 4 0 ++ le 4 0 ++ [6, 0, 0]

def manifestBytes : Bytes :=
  manifestBody ++ be 32 (pointX % p256Order)
    ++ be 32 ((ofBe (sha256 manifestBody) + pointX) % p256Order)

/-- The image the flash answers with: the manifest at MA. -/
def image : FlashImage := (List.range 236).map fun i => (Config.resetMA + i, byteAt manifestBytes i)

def keyed : Fuses :=
  { Fuses.reset with
    key0 := { hash := sha256 (be 32 pointX ++ be 32 pointY), revoked := false } }

def passes : CheckResult → Bool
  | .pass _ _ => true
  | .fail _ _ _ => false

/-- The whole check, its signature included, computed by the kernel. -/
theorem test_manifest_passes :
    passes (manifestCheck keyed { address := Config.resetMA, kind := .slot, slot := .a } image []) = true := by
  decide +kernel

/-- R85: the same manifest, of security version 7, fails the rollback step at epoch 8. -/
theorem test_manifest_rolls_back :
    checkTables { keyed with epochBits := 0xFF }
      { address := Config.resetMA, kind := .slot, slot := .a } [] manifestBytes
      = .fail .rollback 0xFF 7 := by decide +kernel

/-- R83: under a revoked key it fails before its signature is looked at. -/
theorem test_manifest_key_revoked :
    manifestCheck { keyed with key0 := { keyed.key0 with revoked := true } }
      { address := Config.resetMA, kind := .slot, slot := .a } image [] = .fail .keyRevoked 0xFF 0 := by
  decide +kernel

theorem passes_exists {r : CheckResult} (h : passes r = true) : ∃ m bs, r = .pass m bs := by
  cases r with
  | pass m bs => exact ⟨m, bs, rfl⟩
  | fail a b c => cases h

def checkingKeyed : State := (checking .committed).setFuses keyed

theorem witness_PassingManifestTablesLive :
    (checkingKeyed.alive = true ∧ checkingKeyed.boot.phase = .selecting ∧
      checkingKeyed.job = .selectCheck .committed) ∧
    (∃ m bs, manifestCheck checkingKeyed.fuses (checkingKeyed.checkInput .committed) image [] = .pass m bs) ∧
    ∀ kind ∈ [ManifestKind.slot, .recovery], ∃ input : CheckInput, input.kind = kind :=
  ⟨by decide +kernel, passes_exists test_manifest_passes,
    fun kind _ => ⟨{ address := 0, kind := kind, slot := .r }, rfl⟩⟩

/-! ## Completing a start -/

def completing : State :=
  (running.setBoot { running.boot with phase := .completing }).setJob .startUpEntries

def marker : WipeMarker := { spans := [{ base := 0x020000, limit := 0x022000 }], next := 0x020000 }

def marked (s : State) : State := s.setStore { s.store with marker := some marker }

def waitingFor (trigger : SeqTrigger) (actions : List Action) (s : State) : State :=
  s.setSchedule { s.schedule with sequence := [{ trigger := trigger, actions := actions }] }

/-- The actions of a waiting entry go on, or a REBOOT among them restarts. -/
theorem witness_runActions (s : State) :
    runActions s [.lineSet .l3 true, .tighten 4 .readOnly]
        = .on ((s.lineSet .l3 true).tighten 4 .readOnly) ∧
      runActions s [.lockStore, .reboot, .deadlineStop]
        = .restarted ((s.setCred s.cred.locked).beginStart .warmSchedule) := ⟨rfl, rfl⟩

theorem witness_StartUpEntriesAndRelease :
    (completing.alive = true ∧ completing.boot.phase = .completing ∧ completing.job = .startUpEntries ∧
      completing.boot.outcome = .booted booted ∧ completing.schedule.waiting = none ∧
      completing.store.marker = none) ∧
    (∀ actions ∈ [[.lockStore], [.reboot]],
      (waitingFor .verified actions completing).schedule.waiting
        = some { trigger := .verified, actions := actions }) ∧
    ((marked completing).store.marker.isSome = true ∧ (marked completing).port.openTx = .none ∧
      (marked completing).host.mayForward = false) := by
  decide +kernel

/-- R90, R94: VERIFIED's actions run and the cursor advances as the host is released. -/
theorem test_verified_fires : leaves (exec .startUpEntries
      (waitingFor .verified [.lineSet .l3 true, .deadlineStart 9] completing)) (fun t =>
    decide (t.schedule.deadline = .running 9) && decide (t.schedule.cursor = 1)
      && decide ((t.lines.ctl.get 2).driven = some false) && !t.lines.l0Asserted) = true := by decide +kernel

/-- R111: entry 0 is SHA-256 over the serial, the epoch, the key index, and the codes of NORMAL and A. -/
theorem test_entry_0 : leaves (exec .startUpEntries completing) (fun t =>
    decide ((t.stack.entries.get 0).value = sha256 (List.replicate 8 0 ++ [0, 0, 1, 1]))
      && decide (t.stack.top = 3)) = true := by decide +kernel

/-! ## Lines -/

def inputTimer : State :=
  running.setCtl 0 { ctl .input none with sense := { pinHigh := false, settled := some false, timer := true } }

/-- L1 to L4 by their own roles; L5's timer running before its first settled level and after it. -/
theorem witness_SensedLinesSettle :
    (running.alive = true ∧ lineIndex .l1 = some 0 ∧ (running.lines.ctl.get 0).role = some .input) ∧
    (inputTimer.alive = true ∧ (inputTimer.lines.ctl.get 0).role = some .input ∧
      (inputTimer.lines.ctl.get 0).sense.timer = true ∧
      (inputTimer.lines.ctl.get 0).sense.settled = some false) ∧ lineIndex .l4 = some 3 ∧
    (running.lines.l5.pinHigh = true ∧
      (running.setL5 { pinHigh := false, settled := some false, timer := true }).lines.l5.timer = true) ∧
    ((held.setL5 { pinHigh := false, settled := none, timer := true }).lines.l5.timer = true ∧
      held.pins.supply = true ∧ held.pins.resetAsserted = true) := by
  decide +kernel

/-- R106: L5 settles with RESET_N held too, and no sample follows from it. -/
theorem test_l5_settles_while_held : leaves (exec (.lineSettlingExpiry .l5)
      (held.setL5 { pinHigh := false, settled := none, timer := true }))
    (fun t => decide (t.lines.l5.settled = some true) && decide (t.boot = held.boot) && decide (t.flags = 0))
      = true := by decide +kernel

/-- R107: a later settled change of L5 raises LINE(L5); its EVERY entry's mark is set and its action runs. -/
theorem test_l5_later_change : leaves (exec (.lineSettlingExpiry .l5)
      ((running.setL5 { pinHigh := false, settled := some false, timer := true }).setSchedule
        { running.schedule with
          watch := [{ trigger := .line .l5 true, mode := .every, actions := [.freezeStore], fired := false }] }))
    (fun t => t.cred.frozen && decide (t.schedule.watch.map (·.fired) = [true])
      && decide (t.boot.sample = some false)) = true := by decide +kernel

/-- R104, R106: the line is active low, so a low pin settles ASSERTED. -/
theorem test_settles_asserted : leaves (exec (.lineSettlingExpiry .l1) inputTimer)
    (fun t => decide ((t.lines.ctl.get 0).sense = { pinHigh := false, settled := some true, timer := false }))
      = true := by decide +kernel

/-- R106: a bounce back to the settled level stops the timer. -/
theorem test_bounce_stops_timer : leaves (exec (.linePinChange .l1 true) inputTimer)
    (fun t => !(t.lines.ctl.get 0).sense.timer) = true := by decide +kernel

/-- A LINE_SET of the SCHEDULE_OUT line, one of another line, and levels that rise and do not. -/
theorem witness_ActionsTakeEffect :
    (lineIndex .l3 = some 2 ∧ (running.lines.ctl.get 2).role = some .scheduleOut) ∧
    (lineIndex .l2 = some 1 ∧ (running.lines.ctl.get 1).role ≠ some .scheduleOut) ∧
    (running.regions.records[4]?.map (·.tight) = some .none ∧
      Tightening.none.rank < Tightening.readOnly.rank) ∧
    Action.reboot ∉ [.lockStore, .deadlineStop] ∧ Action.reboot ∈ [.lockStore, .reboot] := by decide +kernel

/-- R99: the line is active low, so ASSERTED drives it low; L2 is HOST_OUT and keeps its level. -/
theorem test_line_set : (runActions running [.lineSet .l3 true, .lineSet .l2 true]).state.lines.ctl.map (·.driven)
    = #v[none, some true, some false, none] := by decide +kernel

def entryFor (mode : WatchMode) (fired : Bool) (actions : List Action) : WatchEntry :=
  { trigger := .lockout, mode := mode, actions := actions, fired := fired }

/-- A ONCE entry whose mark is set, an EVERY entry whose mark is set, an entry for another trigger, a ONCE entry
whose mark is clear. -/
def watching : State :=
  running.setSchedule
    { running.schedule with
      watch := [entryFor .once true [.freezeStore], entryFor .every true [.deadlineStart 9],
        { entryFor .every false [.freezeStore] with trigger := .line .l5 true },
        entryFor .once false [.deadlineStop]] }

/-- R97: only the second and the fourth fire, the fourth last; the third gains no mark. -/
theorem witness_SequenceAndWatchListFire :
    ((waitingFor .confirmed [.deadlineStart 9] running).schedule.waiting
        = some { trigger := .confirmed, actions := [.deadlineStart 9] } ∧
      (waitingFor .endMark [] running).schedule.waiting = none) ∧
    fireWatch .lockout watching = .on (watching.setSchedule
      { watching.schedule with watch := watching.schedule.watch.set 3 (entryFor .once true [.deadlineStop]) }) := by
  decide +kernel

theorem witness_SetLinesDrivesHostOutLines :
    (offering running .setLines [0xFF, 0xFF]).offers .setLines = true ∧
      (offering running .setLines [0xFF, 0xFF]).window.requestBody = [0xFF, 0xFF] := by decide +kernel

/-- R108: of every mask bit only the HOST_OUT line's applies; L2 is active low, so ASSERTED drives it low. -/
theorem test_set_lines : leaves (exec .setLines (offering running .setLines [0xFF, 0xFF])) (fun t =>
    decide (t.window.response.body = [0x04, 0, 0, 1, 0, 3, 0])
      && decide ((t.lines.ctl.get 1).driven = some false)) = true := by decide +kernel

/-! ## Host transactions -/

def instructed : State :=
  (running.setPins { running.pins with hcsAsserted := true }).setHost
    { HostRecord.idle with phase := .instruction }

theorem witness_TransactionBeginsIsJudgedAndEnds :
    (running.alive = true ∧ running.pins.hcsAsserted = false) ∧
    (held.pins.supply = true ∧ held.pins.resetAsserted = true ∧ held.pins.hcsAsserted = false) ∧
    instructed.pins.hcsAsserted = true ∧
    ((instructed.openForwarded none).port.openTx.forwarded = true ∧
      ((instructed.openForwarded none).setJob .stageWait).job = .stageWait ∧ instructed.job = .idle) ∧
    (((instructed.takeByte 0x02).host.mayForward = true ∧ instructed.host.mayForward = false) ∧
      (instructed.takeByte 0x02).port.openTx = .none) ∧
    (instructed.awaitsInstruction = true ∧ (instructed.classify 0x03).cls.addressed = true ∧
      (instructed.classify 0x03).addrLen = 3) := by decide +kernel

/-- R17: the engine that waits for a transaction in its address phase begins when HCS_N is released, not before. -/
theorem test_engine_waits_for_address :
    ((((instructed.takeByte 0x02).takePort.setJob .granuleWait).engineTurn).port.openTx = .none) ∧
    leaves (exec .hostTransactionEnd (((instructed.takeByte 0x02).takePort.setJob .granuleWait).engineTurn))
      (fun t => decide (t.port.openTx = .engineStatus (pollOf classes))) = true := by decide +kernel

theorem witness_InstructionBytesByClass :
    selecting.boot.phase ≠ .running ∧
    (instructed.awaitsInstruction = true ∧ (instructed.classify 0x00).cls = .deny ∧
      instructed.quiet .instrDenied = true) ∧
    ((instructed.classify 0xC7).cls = .eraseAll ∧ instructed.quiet .writeRefused = true) ∧
    (instructed.awaitsInstruction = true ∧ instructed.port.owner = .hostPass ∧
      (instructed.classify 0x9F).cls = .pass ∧ (instructed.classify 0x06).cls = .writeEnable ∧
      (instructed.classify 0x04).cls = .writeDisable ∧ (instructed.classify 0x05).cls = .statusRead) ∧
    (instructed.takePort.awaitsInstruction = true ∧ instructed.takePort.port.owner = .engine ∧
      instructed.takePort.quiet .portHeld = true) := by
  decide +kernel

/-- The flood of section 10.6: 0x9F unlisted is denied with instruction byte 0x9F, address 0, region 0xFF. -/
theorem test_deny_logs : leaves (exec (.deny 0x9E) instructed) (fun t =>
    decide (t.log.ring.map (·.incident)
      = [{ kind := .instrDenied, instr := 0x9E, region := 0xFF, detail := 0, addr := 0 }])
      && decide (t.port.openTx = .none)) = true := by decide +kernel

/-- A transaction whose instruction byte has arrived. -/
def addressing (s : State) (b : Byte) : State := (instructed.setPort s.port).takeByte b

def threeByteEntry (cls : InstrClass) : ClassEntry := { cls := cls, addrLen := 3, dummy := 0, lanes := 1 }

/-- Addresses at the edges: the window's first and last granule, the OWNER span, the SPARE span while the session is
CLOSED, the RUNNING span's last byte, and the gap after it. -/
theorem witness_ReadDecision :
    ((addressing running 0x03).awaitsAddress (threeByteEntry .read) [0, 0, 0] = true ∧
      (addressing running 0x03).host.judgement = some .hostPass ∧
      (addressing running 0x03).host.fillLogged = false ∧ (addressing running 0x03).quiet .readFilled = true ∧
      (addressing running 0x03).quiet .boundaryFill = true) ∧
    ((addressing running 0x03).isMailbox ((addressing running 0x03).lookup 0x010FFF) = true ∧
      (addressing running 0x03).isMailbox ((addressing running 0x03).lookup 0x011000) = true) ∧
    ((addressing running 0x03).effectiveRule ((addressing running 0x03).lookup 0x100000) = .noAccess ∧
      (addressing running 0x03).effectiveRule ((addressing running 0x03).lookup 0x00FFFF) = .readOnly ∧
      (addressing running 0x03).translate ((addressing running 0x03).lookup 0x00FFFF) 0x00FFFF = 0x10FFFF ∧
      (addressing running 0x03).effectiveRule ((addressing running 0x03).lookup 0x012000) = .readOnly) ∧
    ((addressing running.takePort 0x03).host.judgement = some .engine ∧
      (addressing running.takePort 0x03).quiet .portHeld = true) := by decide +kernel

/-- The same part over a flash of 2^25 bytes, whose upper half three address bytes cannot carry (R14). -/
def large : State :=
  { instructed with
    fuses := { Fuses.reset with sizeExponent := 25 }
    regions := { defaultRule := .readOnly
                 records := [record 0x000000 0x010000 .readOnly .running 0x1000000 0x1010000,
                   record 0x020000 0x030000 .spare .spare 0x1000000 0x1010000] }
    session := .opened }

theorem witness_carry :
    ((large.takeByte 0x03).awaitsAddress (threeByteEntry .read) [0, 0, 0] = true ∧
      (large.takeByte 0x03).isMailbox ((large.takeByte 0x03).lookup 0) = false ∧
      2 ^ 24 ≤ (large.takeByte 0x03).translate ((large.takeByte 0x03).lookup 0) 0) ∧
    ((large.takeByte 0x02).awaitsAddress (threeByteEntry .program) [2, 0, 0] = true ∧
      (large.takeByte 0x02).effectiveRule ((large.takeByte 0x02).lookup 0x020000) = .openAll ∧
      2 ^ 24 ≤ (large.takeByte 0x02).translate ((large.takeByte 0x02).lookup 0x020000) 0x020000) := by
  decide +kernel

/-- R14: the read that three bytes cannot carry is not forwarded; it is BOUNDARY_FILL with detail CARRY. -/
theorem test_carry_fills : leaves (exec (.read [0, 0, 0]) (large.takeByte 0x03)) (fun t =>
    decide (t.port.openTx = .none) && decide (t.log.ring.map (·.incident)
      = [{ kind := .boundaryFill, instr := 0x03, region := 0, detail := 0x13, addr := 0 }])) = true := by
  decide +kernel

/-- R27: a RUNNING record's read is sent at P(A) + (a - base). -/
theorem test_read_translates : leaves (exec (.read [0x00, 0x12, 0x34]) (addressing running 0x03)) (fun t =>
    decide (t.port.openTx = .host 0x03 1 (some 0x101234) none)) = true := by decide +kernel

theorem witness_ProgramDecision :
    ((addressing running 0x02).awaitsAddress (threeByteEntry .program) [0x01, 0x00, 0x00] = true ∧
      (addressing running 0x02).host.judgement = some .hostPass ∧
      (addressing running 0x02).quiet .writeRefused = true) ∧
    ((addressing running 0x02).windowOffset 0x010FFF = 4095 ∧
      (addressing running 0x02).windowOffset 0x011000 = 4096) ∧
    ((addressing running 0x02).effectiveRule ((addressing running 0x02).lookup 0x020000) = .openAll ∧
      (addressing running 0x02).translate ((addressing running 0x02).lookup 0x020000) 0x020000 < 2 ^ 24 ∧
      (addressing running 0x02).effectiveRule ((addressing running 0x02).lookup 0) = .readOnly) := by
  decide +kernel

/-- R142: with the session OPEN a SPARE program goes to the target slot's side. -/
theorem test_spare_program : leaves (exec (.program [0x10, 0x00, 0xFF])
      ((addressing running 0x02).setSession .opened)) (fun t =>
    decide (t.port.openTx = .host 0x02 1 (some 0x2000FF) none)) = true := by decide +kernel

theorem witness_EraseDecision :
    ((addressing running 0x20).awaitsAddress (threeByteEntry .erase4k) [0x02, 0x00, 0x00] = true ∧
      (addressing running 0x52).awaitsAddress (threeByteEntry .erase32k) [0x02, 0x00, 0x00] = true ∧
      (addressing running 0xD8).awaitsAddress (threeByteEntry .erase64k) [0x02, 0x00, 0x00] = true) ∧
    (∀ size ∈ [4096, 32768, 65536],
      (addressing running 0xD8).lookup (0x020000 + size - 1) = (addressing running 0xD8).lookup 0x020000 ∧
      (addressing running 0xD8).translate ((addressing running 0xD8).lookup 0x020000) 0x020000 % size = 0) ∧
    ((addressing running 0x52).lookup (0x010000 + 32768 - 1) ≠ (addressing running 0x52).lookup 0x010000 ∧
      (addressing running 0x20).effectiveRule ((addressing running 0x20).lookup 0) = .readOnly ∧
      (addressing running 0x20).windowOffset 0x011000 = 4096) ∧
    ((addressing running 0x20).awaitsAddress (threeByteEntry .erase4k) [0x01, 0x0F, 0xFF] = true ∧
      (addressing running 0x20).isMailbox ((addressing running 0x20).lookup 0x010FFF) = true ∧
      (addressing running 0x20).windowOffset 0x010FFF = 4095 ∧
      (addressing running 0x20).quiet .requestOverrun = true ∧
      (addressing running 0x20).mailbox.isSome = true) := by decide +kernel

def mailboxIn (state : MailboxState) : State :=
  (addressing running 0x20).setWindow { Window.start with state := state, buffer := [0x45] }

/-- R58: by the mailbox state nothing, the partial frame discarded, an overrun, or IDLE again. -/
theorem test_erase_request_granule :
    leaves (exec (.erase4k [0x01, 0x00, 0x00]) (mailboxIn .assembling))
      (fun t => decide (t.window.state = .idle) && decide (t.window.buffer = [])) = true ∧
    leaves (exec (.erase4k [0x01, 0x00, 0x00]) (mailboxIn .executing))
      (fun t => decide (t.window.overrun = 1) && decide (t.log.ring.map (·.incident.kind) = [.requestOverrun]))
        = true ∧
    leaves (exec (.erase4k [0x01, 0x00, 0x00]) (mailboxIn .done)) (fun t => decide (t.window.state = .idle))
      = true := by decide +kernel

/-- R43: a 32 KiB erase over the window crosses out of its record. -/
theorem test_erase_crosses : leaves (exec (.erase32k [0x01, 0x00, 0x00]) (addressing running 0x52)) (fun t =>
    decide (t.port.openTx = .none) && decide (t.log.ring.map (·.incident)
      = [{ kind := .writeRefused, instr := 0x52, region := 1, detail := 0x10, addr := 0x010000 }]))
      = true := by decide +kernel

/-- R41: the erase is sent at the first address of its span. -/
theorem test_erase_span : leaves (exec (.erase64k [0x02, 0xAB, 0xCD]) (addressing running 0xD8)) (fun t =>
    decide (t.port.openTx = .host 0xD8 1 (some 0x020000) none)) = true := by decide +kernel

/-! ### Read streams and program bytes -/

def reading (seg : Segment) (mode : StreamMode) (a0 index : Nat) (previous : Option Nat) : State :=
  let s := addressing running 0x03
  s.setHost { s.host with
    phase := .data, addr := some a0, decision := some .forward
    stream := some { index := index, segment := seg, mode := mode, previous := previous } }

/-- Over 2^25 bytes, a stream whose next physical byte is 0x1000000. -/
def carrying : State :=
  (large.takeByte 0x03).setHost
    { (large.takeByte 0x03).host with
      phase := .data, addr := some 0x020000, decision := some .forward
      stream := some { index := 1, segment := .record 1, mode := .flash, previous := some 0xFFFFFF } }

theorem witness_ReadStreamWithinASegment :
    ((reading (.record 0) .flash 0 0xFFFF (some 0x10FFFE)).streaming (threeByteEntry .read)
        { index := 0xFFFF, segment := .record 0, mode := .flash, previous := some 0x10FFFE } 0 = true ∧
      (reading (.record 0) .flash 0 0xFFFF (some 0x10FFFE)).leavesSegment
        { index := 0xFFFF, segment := .record 0, mode := .flash, previous := some 0x10FFFE } 0xFFFF = false ∧
      (reading (.record 0) .flash 0 0xFFFF (some 0x10FFFE)).effectiveRule (.record 0) ≠ .noAccess) ∧
    ((reading (.record 3) .flash 0x100000 0 none).leavesSegment
        { index := 0, segment := .record 3, mode := .flash, previous := none } 0x100000 = false ∧
      (reading (.record 3) .flash 0x100000 0 none).effectiveRule (.record 3) = .noAccess ∧
      (reading (.record 3) .flash 0x100000 0 none).host.fillLogged = false ∧
      (reading (.record 3) .flash 0x100000 0 none).quiet .readFilled = true) ∧
    (carrying.streaming (threeByteEntry .read)
        { index := 1, segment := .record 1, mode := .flash, previous := some 0xFFFFFF } 0x020000 = true ∧
      carrying.leavesSegment
        { index := 1, segment := .record 1, mode := .flash, previous := some 0xFFFFFF } 0x020001 = false ∧
      carrying.effectiveRule (.record 1) ≠ .noAccess ∧ 2 ^ (8 * 3) ≤ (0xFFFFFF + 1) % carrying.flashSize ∧
      carrying.host.fillLogged = false ∧ carrying.quiet .boundaryFill = true) := by decide +kernel

/-- Byte 65,536 of a stream from 0 enters the window; byte 0x2000 of one from 0x0FE000 enters SPARE; the gap before
the OPEN record runs on into it. -/
theorem witness_ReadStreamEntersASegment :
    ((reading (.record 0) .flash 0 0x10000 (some 0x10FFFF)).streaming (threeByteEntry .read)
        { index := 0x10000, segment := .record 0, mode := .flash, previous := some 0x10FFFF } 0 = true ∧
      (reading (.record 0) .flash 0 0x10000 (some 0x10FFFF)).leavesSegment
        { index := 0x10000, segment := .record 0, mode := .flash, previous := some 0x10FFFF } 0x10000 = true ∧
      running.isMailbox (running.lookup 0x10000) = true) ∧
    (running.effectiveRule (running.lookup 0x100000) = .noAccess ∧
      running.isMailbox (running.lookup 0x100000) = false) ∧
    (running.isMailbox (running.lookup 0x300000) = false ∧
      running.effectiveRule (running.lookup 0x300000) = .openAll ∧
      running.translate (running.lookup 0x300000) 0x300000 = (0x2FFFFF + 1) % running.flashSize ∧
      running.inSegment (running.lookup 0x2FFFFF) 0x300000 = false) := by decide +kernel

/-- R35: the byte that enters the window is fill, BOUNDARY_FILL with detail WINDOW_ENTERED. -/
theorem test_window_entered : leaves (exec (.readStreamByte 0x5A)
      (reading (.record 0) .flash 0 0x10000 (some 0x10FFFF))) (fun t =>
    decide (t.host.driven = some 0xFF) && decide (t.log.ring.map (·.incident)
      = [{ kind := .boundaryFill, instr := 0x03, region := 1, detail := 0x21, addr := 0x10000 }]))
      = true := by decide +kernel

def latched : State :=
  (reading (.record 0) .flash 0 5 none).setHost
    { (reading (.record 0) .flash 0 5 none).host with fillLatched := true }

def statusReading (d : Decision) : State :=
  let s := instructed.takeByte 0x05
  s.setHost { s.host with decision := some d }

/-- A transaction that a start has cut short (R21). -/
def abandoned : State := instructed.setHost .abandoned

/-- A transaction of an entry with `addrLen` and `dummy`, in a phase, with a decision. -/
def inPhase (cls : InstrClass) (addrLen dummy : Nat) (phase : Phase) (d : Decision) : State :=
  instructed.setHost
    { instructed.host with
      phase := phase, instr := some 0x9F, judgement := some .hostPass, decision := some d
      entry := some { cls := cls, addrLen := addrLen, dummy := dummy, lanes := 1 } }

theorem witness_BytesDrivenToTheHost :
    (latched.pins.supply = true ∧ latched.host.phase = .data ∧ latched.host.fillLatched = true ∧
      latched.host.decision.isSome = true ∧ latched.host.addr.isSome = true) ∧
    ((reading (.record 1) .window 0x011000 0 none).streaming (threeByteEntry .read)
        { index := 0, segment := .record 1, mode := .window, previous := none } 0x011000 = true ∧
      (reading (.record 1) .window 0x011000 0 none).leavesSegment
        { index := 0, segment := .record 1, mode := .window, previous := none } 0x011000 = false) ∧
    ((reading (.record 1) .window 0x011FFF 1 none).streaming (threeByteEntry .read)
        { index := 1, segment := .record 1, mode := .window, previous := none } 0x011FFF = true ∧
      (reading (.record 1) .window 0x011FFF 1 none).leavesSegment
        { index := 1, segment := .record 1, mode := .window, previous := none } 0x012000 = true ∧
      (reading (.record 1) .window 0x011FFF 1 none).quiet .boundaryFill = true) ∧
    ((statusReading .synthStatus).host.phase = .data ∧
      (statusReading .synthStatus).host.entry.map (·.cls) = some .statusRead) ∧
    ((inPhase .deny 3 1 .address .fill).pins.supply = true ∧
      ∀ phase ∈ [Phase.address, .dummy, .data], (inPhase .pass 3 1 phase .absorb).host.phase = phase) ∧
    (InstrClass.hasData .erase64k = false ∧ (inPhase .erase64k 3 0 .trail .forward).host.phase = .trail) ∧
    (abandoned.pins.supply = true ∧ abandoned.host.phase = .abandoned) := by
  decide +kernel

/-- R1, R21: fill in TRAIL and in ABANDONED, whatever the flash drives. -/
theorem test_fill_in_trail_and_abandoned :
    leaves (exec (.readStreamByte 0x5A) (inPhase .erase64k 3 0 .trail .forward))
      (fun t => decide (t.host.driven = some 0xFF)) = true ∧
    leaves (exec (.readStreamByte 0x5A) abandoned) (fun t => decide (t.host.driven = some 0xFF)) = true := by
  decide +kernel

/-- R37: a response-area stream that leaves the window is fill with detail WINDOW_LEFT. -/
theorem test_window_left : leaves (exec (.readStreamByte 0x5A) (reading (.record 1) .window 0x011FFF 1 none))
    (fun t => decide (t.host.driven = some 0xFF) && decide (t.log.ring.map (·.incident)
      = [{ kind := .boundaryFill, instr := 0x03, region := 1, detail := 0x22, addr := 0x012000 }])) = true := by
  decide +kernel

/-- R1: a READ with two dummy bytes reaches its data phase at the second. -/
theorem test_read_dummy_bytes :
    leaves (exec (.readStreamByte 0) (inPhase .read 3 2 .dummy .forward))
      (fun t => decide (t.host.phase = .dummy) && decide (t.host.dummyCount = 1)) = true ∧
    leaves (exec (.readStreamByte 0) ((inPhase .read 3 2 .dummy .forward).setHost
        { (inPhase .read 3 2 .dummy .forward).host with dummyCount := 1 }))
      (fun t => decide (t.host.phase = .data) && decide (t.host.driven = none)) = true := by decide +kernel

/-- Section 3.8: the response area's first byte is the response magic. -/
theorem test_response_area : leaves (exec (.readStreamByte 0x5A) (reading (.record 1) .window 0x011000 0 none))
    (fun t => decide (t.host.driven = some 0xA5)) = true := by decide +kernel

def programming (d : Decision) (a count : Nat) (w : Window) : State :=
  let s := addressing running 0x02
  (s.setWindow w).setHost
    { s.host with phase := .data, addr := some a, decision := some d, dataCount := count }

def assembling (bs : Bytes) : Window := { Window.start with state := .assembling, buffer := bs }

/-- A program whose rest is discarded. -/
def discarding (d : Decision) : State := (programming d 0x010000 1 .start).discardRest

theorem witness_BytesTheHostSends :
    (((programming .forward 0x020000 0 .start).openForwarded (some 0x020000)).programming .forward 0x020000
        = true ∧
      (programming .forward 0x020000 0 .start).effectiveRule
        ((programming .forward 0x020000 0 .start).lookup 0x020000) = .openAll) ∧
    ((programming .forward 0x100000 3 .start).programming .forward 0x100000 = true ∧
      (programming .forward 0x100000 3 .start).effectiveRule
        ((programming .forward 0x100000 3 .start).lookup 0x100000) ≠ .openAll ∧
      (programming .forward 0x100000 3 .start).quiet .writeRefused = true) ∧
    ((inPhase .pass 3 1 .address .forward).pins.supply = true ∧
      ((inPhase .pass 3 1 .address .forward).openForwarded none).port.openTx = .host 0x9F 1 none none) ∧
    (∀ d ∈ [Decision.refuse, .absorb], (programming d 0 0 .start).host.decision = some d) ∧
    (∀ d ∈ [Decision.forward, .window], (discarding d).host.phase = .data ∧
      (discarding d).host.discarding = true ∧ (discarding d).mailbox.isSome = true) ∧
    (∀ cls ∈ [InstrClass.erase4k, .erase32k, .erase64k],
      (inPhase cls 3 0 .trail .refuse).host.entry.map (·.cls) = some cls) ∧
    (abandoned.host.phase = .abandoned ∧ Source.of (.programDataByte 1) = .host) := by
  decide +kernel

/-- R62: the second byte of a program that overran an executing request is counted and discarded. -/
theorem test_overrun_program_goes_on : leaves
    (exec (.programDataByte 7) ((discarding .window).setWindow { Window.start with state := .executing }))
    (fun t => decide (t.host.dataCount = 2) && decide (t.window.overrun = 0) && decide (t.log.ring = []))
      = true := by decide +kernel

/-- R1: the third address byte of a PASS entry is collected, sent on, and begins the dummy phase. -/
theorem test_pass_address_bytes : leaves (exec (.programDataByte 0x34)
      (((inPhase .pass 3 1 .address .forward).setHost
        { (inPhase .pass 3 1 .address .forward).host with addrBytes := [0, 0x12] }).openForwarded none))
    (fun t => decide (t.host.addrBytes = [0, 0x12, 0x34]) && decide (t.host.phase = .dummy)
      && decide (t.port.openTx = .host 0x9F 1 none (some 0x34))) = true := by decide +kernel

/-- R52: byte 1 of a program at the last offset of a page lands at the page's first. -/
theorem test_page_wrap_landing : landing 0xFF 1 = 0 ∧ landing 0x1FF 2 = 0x101 := by decide

theorem witness_RequestAreaBytes :
    ((programming .window 0x010000 0 .start).programming .window 0x010000 = true ∧
      (programming .window 0x010000 0 .start).mailbox.isSome = true ∧
      landing ((programming .window 0x010000 0 .start).windowOffset 0x010000) 0 = 0) ∧
    ((programming .window 0x010002 0 (assembling [1])).windowOffset 0x010002 = 2 ∧
      (programming .window 0x010002 0 (assembling [1])).windowOffset 0x010000 = 0 ∧
      (programming .window 0x010002 0 (assembling [1])).host.breakLogged = false ∧
      (programming .window 0x010002 0 (assembling [1])).quiet .frameBad = true) ∧
    ((programming .window 0x010002 0 { Window.start with state := .done }).window.buffer.length = 0 ∧
      (programming .window 0x010000 9 { Window.start with state := .done }).host.dataCount = 9) ∧
    landing 0xFF 1 ≠ (assembling [1]).buffer.length ∧
    ((programming .window 0x010000 0
        { Window.start with state := .executing }).quiet .requestOverrun = true) := by decide +kernel

/-- R54: after a sequence break has been logged, a page wrap in the same program discards and logs nothing. -/
theorem test_one_break_a_program :
    leaves (exec (.programDataByte 7) (programming .window 0x010000 0 (assembling [1, 2]))) (fun t =>
      decide (t.window.buffer = [7]) && t.host.breakLogged && decide (t.log.ring.length = 1)) = true ∧
    leaves (exec (.programDataByte 7)
      ((programming .window 0x0100FF 1 (assembling [1])).setHost
        { (programming .window 0x0100FF 1 (assembling [1])).host with breakLogged := true })) (fun t =>
      decide (t.window.state = .idle) && t.host.discarding && decide (t.log.ring = [])) = true := by
  decide +kernel

def sevenBytes (lengthLow : Byte) : Bytes := [0x45, 0x4A, 0x51, 1, 0, 0, lengthLow]

/-- Body length 4,086 is 0x0FF6 and is admitted; 4,087 is not. -/
theorem witness_EighthByteDecidesTheHeader :
    (programming .window 0x010007 0 (assembling (sevenBytes 0xF6))).programming .window 0x010007 = true ∧
      (sevenBytes 0xF6).length = 7 ∧ landing 7 0 = 7 ∧
      (decodeHeader (sevenBytes 0xF6 ++ [0x0F])).bodyLength = 4086 ∧
      (decodeHeader (sevenBytes 0xF7 ++ [0x0F])).bodyLength = 4087 ∧
      (programming .window 0x010007 0 (assembling (sevenBytes 0xF7))).quiet .frameBad = true := by
  decide +kernel

def framed (r : Byte) (lastByte : Byte) : Window :=
  { assembling ([0x45, 0x4A, 0x51, r, 0, 0, 0, 0, lastByte]) with
    header := some { magic := requestMagic, code := r, tag := 0, bodyLength := 0 }
    frameLength := some 10 }

theorem witness_CompleteFrameIsCheckedAndDispatched :
    (programming .window 0x010009 0 (framed 1 0)).programming .window 0x010009 = true ∧
      (framed 1 0).buffer.length = 9 ∧
      frameCheckMatches ([0x45, 0x4A, 0x51, 1, 0, 0, 0, 0]
        ++ le 2 (frameCheck [0x45, 0x4A, 0x51, 1, 0, 0, 0, 0]).toNat) = true ∧
      frameCheckMatches [0x45, 0x4A, 0x51, 1, 0, 0, 0, 0, 0, 0] = false ∧
      Request.ofCode 1 = some .getStatus ∧ Request.ofCode 27 = some .readLog ∧ Request.ofCode 28 = none ∧
      Request.ofCode 0 = none ∧
      Request.admitsLength .putCredential 54 = true ∧ Request.admitsLength .putCredential 118 = false := by
  decide +kernel

theorem witness_GetStatusAnswers :
    (offering running .getStatus []).offers .getStatus = true ∧
      (offering running .getStatus []).boot.outcome = .booted booted := by decide +kernel

/-- Section 11.4's GET_STATUS layout on the small part. -/
theorem test_get_status : leaves (exec .getStatus (offering running .getStatus [])) (fun t =>
    decide (t.window.response.body = [1, 1, 2, 1, 1, 0, 0, 0, 0, 0, 0, 0, 0, 0, 0, 0, 0, 0, 0, 0, 0, 3,
      0, 0, 0, 0, 0, 0, 0])) = true := by decide +kernel

/-! ## Regions -/

theorem witness_LookupFindsTheSegment :
    0xFFFFFF < running.flashSize ∧ running.lookup 0 = .record 0 ∧ running.lookup 0xFFFF = .record 0 ∧
      running.lookup 0x12000 = .gap 0x12000 0x20000 ∧ running.lookup 0xFFFFFF = .gap 0x310000 0x1000000 := by
  decide +kernel

/-- Sections 2.5 and 2.7: the OWNER span of an UNSET store is OPEN until a wipe marker exists, and the SPARE span
follows the session. -/
theorem witness_EffectiveRules :
    ((record 0x020000 0x030000 .owner .none 0 0).rule = .owner ∧
      running.effectiveRule (.record 2) = .openAll ∧ (marked running).effectiveRule (.record 2) = .noAccess) ∧
    ((record 0x100000 0x110000 .spare .spare 0x100000 0x200000).rule = .spare ∧
      (running.setSession .staged).effectiveRule (.record 3) = .readOnly) ∧
    (running.regions.records[4]?.map (·.tight) = some .none ∧
      (running.tighten 4 .readOnly).effectiveRule (.record 4) = .readOnly ∧
      (running.tighten 4 .noAccess).regions.records[4]?.map (·.tight) = some .noAccess) := by decide +kernel

/-- Raised, kept, and each argument that is refused: an index past the table, the window's record, levels 0 and 4,
and a level below the present one. -/
theorem witness_TightenRegionRequest :
    ((offering running .tightenRegion [4, 2]).offers .tightenRegion = true ∧
      (offering running .tightenRegion [4, 2]).window.requestBody = [4, 2] ∧
      Tightening.none.rank ≤ Tightening.readOnly.rank) ∧
    ((offering (running.tighten 4 .noAccess) .tightenRegion [4, 3]).offers .tightenRegion = true ∧
      (running.tighten 4 .noAccess).regions.records[4]?.map (·.tight) = some .noAccess) ∧
    (running.regions.records[5]? = none ∧ running.regions.records[1]?.map (·.rule) = some .mailbox ∧
      Tightening.readOnly.code = 2 ∧ Tightening.readOnly.rank < Tightening.noAccess.rank) := by decide +kernel

/-- Section 2.8's table: a level below the present one is refused. -/
theorem test_tighten_lower : leaves
    (exec .tightenRegion (offering (running.tighten 4 .noAccess) .tightenRegion [4, 2]))
    (fun t => decide (t.window.response.status = .badArgument)) = true := by decide +kernel

theorem witness_TighteningOnlyRises :
    running.boot.phase ≠ .selecting ∧
      leaves (exec .tightenRegion (offering running .tightenRegion [4, 2])) (fun t =>
        decide (t.regions.records[4]?.map (·.tight) = some .readOnly)) = true ∧
      running.regions.records[4]?.map (·.tight) = some .none := by decide +kernel

/-- A program reaches the OPEN span, and each erase a whole span of it. -/
theorem witness_FirstLaw :
    (addressing running 0x02).loadedBy booted = true ∧
      (addressing running 0x02).port.openTx.forwarded = false ∧
      InstrClass.program.reach 0x3000FF = some (0x300000, 256) ∧
      leaves (exec (.program [0x30, 0x00, 0xFF]) (addressing running 0x02))
        (fun t => decide (t.port.openTx = .host 0x02 1 (some 0x3000FF) none)) = true ∧
      leaves (exec (.erase4k [0x30, 0xFF, 0xFF]) (addressing running 0x20))
        (fun t => decide (t.port.openTx = .host 0x20 1 (some 0x30F000) none)) = true ∧
      leaves (exec (.erase32k [0x30, 0xFF, 0xFF]) (addressing running 0x52))
        (fun t => decide (t.port.openTx = .host 0x52 1 (some 0x308000) none)) = true ∧
      leaves (exec (.erase64k [0x30, 0xFF, 0xFF]) (addressing running 0xD8))
        (fun t => decide (t.port.openTx = .host 0xD8 1 (some 0x300000) none)) = true := by decide +kernel

/-! ## The Measurement Stack -/

def stage : Bytes := [0x4F, 0x53, 0x20, 0x31]

def opened : MeasEntry := .newlyOpened stage

/-- The running part with `n` entries used, the last of them as given. -/
def stacked (n : Nat) (last : MeasEntry) : State :=
  running.setStack { entries := Stack.start.entries.setIfInBounds (n - 1) last, top := n }

def full (o : Overflow) : State :=
  (stacked 8 { opened with tag := .closed }).setBoot
    { running.boot with outcome := .booted { booted with params := { params with overflow := o } } }

theorem witness_OpenStageRequest :
    ((offering (stacked 4 opened) .openStage stage).offers .openStage = true ∧
      (offering (stacked 4 opened) .openStage stage).boot.outcome = .booted booted ∧
      (stacked 4 opened).stack.openTop.isSome = true ∧ (stacked 4 opened).quiet .stackRefused = true) ∧
    ((offering (stacked 7 { opened with tag := .closed }) .openStage stage).offers .openStage = true ∧
      (stacked 7 { opened with tag := .closed }).stack.openTop = none) ∧
    ((offering (full .fold) .openStage stage).offers .openStage = true ∧
      (full .fold).stack.openTop = none ∧ (full .fold).stack.top = 8) ∧
    ((offering (full .refuse) .openStage stage).offers .openStage = true ∧
      (full .refuse).quiet .stackRefused = true) := by decide +kernel

/-- R116: a ninth stage folds into entry 7, keeps its value and count, and sets STACK_FOLDED. -/
theorem test_ninth_stage_folds : leaves (exec .openStage (offering (full .fold) .openStage [1, 2, 3, 4]))
    (fun t => decide (t.window.response.body = [7, 1]) && decide (t.flags = 0x40) &&
      decide (t.stack.entries[7]?.map (fun e => (e.tag, e.label, e.folded))
        = some (.opened, [1, 2, 3, 4], true))) = true := by decide +kernel

theorem witness_ExtendRequest :
    ((offering (stacked 4 opened) .extend (List.replicate 32 1)).offers .extend = true ∧
      (stacked 4 opened).stack.openTop = some (3, opened)) ∧
    ((offering running .extend (List.replicate 32 1)).offers .extend = true ∧
      running.stack.openTop = none ∧ running.quiet .stackRefused = true) ∧
    ((stacked 4 opened).setJob (.extendHash (List.replicate 32 1))).alive = true := by decide +kernel

/-- R114: the count saturates at 65,535. -/
theorem test_extend_saturates : leaves
    (exec .extendHashComplete
      ((stacked 4 { opened with count := 0xFFFF }).setJob (.extendHash (List.replicate 32 1))))
    (fun t => decide (t.window.response.body.take 3 = [3, 0xFF, 0xFF])) = true := by decide +kernel

theorem witness_CloseStageAndReadMeasurements :
    ((offering (stacked 4 opened) .closeStage []).offers .closeStage = true ∧
      (stacked 4 opened).stack.openTop = some (3, opened) ∧ (stacked 4 opened).schedule.waiting = none) ∧
    ((offering (waitingFor (.stageClosed stage) [.deadlineStop] (stacked 4 opened)) .closeStage []).offers
        .closeStage = true ∧
      (waitingFor (.stageClosed stage) [.reboot] (stacked 4 opened)).schedule.waiting
        = some { trigger := .stageClosed opened.label, actions := [.reboot] }) ∧
    ((offering running .closeStage []).offers .closeStage = true ∧ running.stack.openTop = none) ∧
    ((offering (full .fold) .readMeasurements []).offers .readMeasurements = true ∧
      (full .fold).stack.top = 8) := by decide +kernel

/-- R94: the waiting STAGE_CLOSED entry fires and the cursor advances. -/
theorem test_close_stage_fires : leaves
    (exec .closeStage (offering (waitingFor (.stageClosed stage) [.deadlineStart 300] (stacked 4 opened))
      .closeStage []))
    (fun t => decide (t.schedule.deadline = .running 300) && decide (t.schedule.cursor = 1)
      && decide (t.window.response.body.take 2 = [3, 2])) = true := by decide +kernel

/-! ## Identity and quotes -/

theorem witness_IdentityAndQuoteRequests :
    ((offering running .getIdentity []).offers .getIdentity = true ∧
      (running.setJob (.deriveIdentity { d := 1, q := [] })).alive = true ∧
      running.boot.outcome = .booted booted) ∧
    ((offering running .quote (List.replicate 33 0xFF)).offers .quote = true ∧
      (offering running .quote (List.replicate 33 0xFF)).quote.startEpoch = some 0) ∧
    (running.setJob (.signQuote { d := 1, q := [] } [])).alive = true := by decide +kernel

/-- R128: the key is cleared as the identity is answered. -/
theorem test_identity_cleared : leaves
    (exec .keyDerivationComplete (running.setJob (.deriveIdentity { d := 1, q := List.replicate 64 3 })))
    (fun t => decide (t.job = .idle)
      && decide (t.window.response.body = List.replicate 8 0 ++ List.replicate 64 3 ++ [0, 0, 1, 0, 0, 0]))
      = true := by decide +kernel

/-- R131: the counter rises when the body is assembled; nothing is answered before the signature. -/
theorem test_quote_counts : leaves (exec .quote (offering running .quote (List.replicate 33 0))) (fun t =>
    decide (t.quote.counter = 1) && decide (t.window.state = .executing)) = true := by decide +kernel

/-! ## Signed updates -/

def pendingB : SlotState := { committed := .a, pending := some .b, trials := 3 }

theorem witness_UpdateSessionRequests :
    ((offering running .openUpdate []).offers .openUpdate = true ∧ booted.verdict ≠ .trial ∧
      running.session = .closed ∧ running.store.slots.pending = none) ∧
    ((offering (runningAs .trial .b .a) .openUpdate []).offers .openUpdate = true ∧
      (offering (running.setSession .staged) .openUpdate []).offers .openUpdate = true ∧
      (offering (running.setSlots pendingB) .openUpdate []).offers .openUpdate = true) ∧
    ((offering (running.setSession .opened) .stageUpdate []).offers .stageUpdate = true ∧
      (offering running .stageUpdate []).offers .stageUpdate = true ∧
      ((running.setSession .opened).openForwarded none).port.openTx.forwarded = true ∧
      (offering ((instructed.takeByte 0x02).setSession .opened) .stageUpdate []).offers .stageUpdate = true ∧
      (instructed.takeByte 0x02).host.mayForward = true) ∧
    ((offering (running.setSession .staged) .abortUpdate []).offers .abortUpdate = true ∧
      (offering running .abortUpdate []).offers .abortUpdate = true) ∧
    ((running.setWrite (some .abortPending)).alive = true) := by decide +kernel

/-- Section 8.2: the session opened on slot B answers its target and state. -/
theorem test_open_update : leaves (exec .openUpdate (offering running .openUpdate [])) (fun t =>
    decide (t.session = .opened) && decide (t.window.response.body = [2, 1])) = true := by decide +kernel

def staging : State := ((runningAs .normal .b .a).setFuses keyed).setJob .stageCheck

theorem witness_StagingCheckEnds :
    (staging.alive = true ∧ staging.job = .stageCheck ∧ staging.quiet .stageFailed = true ∧
      staging.boot.outcome = .booted { booted with running := .b, target := .a } ∧
      manifestCheck staging.fuses (staging.stageInput { booted with running := .b, target := .a }) [] []
        = .fail .header 0xFF 0) ∧
    (∃ m bs, manifestCheck staging.fuses (staging.stageInput { booted with running := .b, target := .a })
      image [] = .pass m bs) ∧
    (running.setWrite (some (.pendingSet
      { slot := .b, keyIndex := 1, securityVersion := 65535, imageVersion := 0, epoch := 64 }))).alive
        = true :=
  ⟨by decide +kernel, passes_exists test_manifest_passes, by decide +kernel⟩

/-- R146, section 11.4: B is pending with three trials. -/
theorem test_staged : leaves
    (exec .writeTakesEffect (running.setWrite (some (.pendingSet
      { slot := .b, keyIndex := 1, securityVersion := 7, imageVersion := 256, epoch := 2 }))))
    (fun t => decide (t.store.slots = pendingB) && decide (t.session = .staged)
      && decide (t.window.response.body = [2, 3, 1, 7, 0, 0, 1, 0, 0, 2])) = true := by decide +kernel

def polling (job : Job) (s : State) : State :=
  (s.setJob job).setPort { s.port with owner := .engine, openTx := .engineStatus (pollOf classes) }

def erasing : State :=
  ((marked running).setJob .granuleErase).setPort
    { running.port with owner := .engine, openTx := (marked running).granuleTx marker }

theorem witness_ReadyWaits :
    ((polling .stageWait running).alive = true ∧ (1 : Byte).getLsbD running.fuses.busyBit = true ∧
      (0xFE : Byte).getLsbD running.fuses.busyBit = false ∧
      (polling .stageWait running).boot.outcome = .booted booted) ∧
    ((polling .startWait selecting).alive = true ∧ selecting.boot.sample = none ∧
      (sampled true (polling .startWait selecting)).boot.sample = some true ∧ selecting.write = none ∧
      selecting.boot.phase = .selecting) ∧
    ((polling .granuleWait (marked running)).alive = true ∧ (marked running).store.marker = some marker) ∧
    (erasing.alive = true ∧ erasing.job = .granuleErase ∧
      erasing.port.openTx = .engineErase (some (classRow 0x06 .writeEnable 0))
        (some (classRow 0x20 .erase4k 3)) 0x020000) ∧
    (running.setJob .granuleErased).alive = true := by decide +kernel

/-- R18, section 8.3: the engine's read of B's manifest is issued with the fused byte at MB. -/
theorem test_stage_reads_manifest : leaves (exec (.readyWaitPoll 0xFE) (polling .stageWait running)) (fun t =>
    decide (t.port.openTx = .engineRead 0 0xD10000 3)) = true := by decide +kernel

/-- The verdicts, the writes each begins, and a part where nothing is left to do: security version 70 calls for epoch
64. -/
theorem witness_ConfirmBootRequest :
    (∀ s ∈ [running, runningAs .trial .b .a, runningAs .fallback .b .a, runningAs .recovery .r .b],
      (offering s .confirmBoot []).offers .confirmBoot = true) ∧
    ((runningAs .trial .b .a).store.slots ≠ { committed := .b, pending := none, trials := 0 } ∧
      (runningAs .fallback .b .a).store.slots.committed ≠ .b ∧ (Slot.b).run = .b) ∧
    (running.epoch = 0 ∧ min params.securityVersion 64 = 64 ∧
      epochValue (thermometer 64) = 64 ∧ running.fuses.otherRevoked params = false ∧
      ({ Fuses.reset with key1 := { Fuses.reset.key1 with revoked := true } }).otherRevoked params = true ∧
      running.schedule.waiting = none ∧
      (waitingFor .confirmed [.reboot] running).schedule.waiting
        = some { trigger := .confirmed, actions := [.reboot] }) := by decide +kernel

/-- The part at epoch 64 with key 1 revoked: no confirm step is called for. -/
def confirmed : State :=
  (counting 5).setFuses
    { Fuses.reset with
      epochBits := thermometer 64, key1 := { Fuses.reset.key1 with revoked := true } }

/-- R158: with nothing left to do the deadline stops and no step is reported. -/
theorem test_confirm_again : leaves
    (exec .confirmBoot (offering confirmed .confirmBoot []))
    (fun t => decide (t.schedule.deadline = .stopped)
      && decide (t.window.response.body = [1, 0, 0, 64, 2, 0])) = true := by decide +kernel

theorem witness_ConfirmWrites :
    ((running.setWrite (some (.confirmSlot { committed := .b, pending := none, trials := 0 }))).alive = true ∧
      running.boot.outcome = .booted booted ∧ running.epoch < min params.securityVersion 64) ∧
    ((running.setWrite (some (.confirmEpoch { slotState := true, epoch := false, revocation := false }))).alive
        = true ∧
      running.fuses.epochBits = thermometer running.epoch ∧ params.revokeOther = true ∧
      running.fuses.otherRevoked params = false) ∧
    ((running.setWrite (some (.confirmRevoke { slotState := true, epoch := true, revocation := false }))).alive
        = true ∧ params.keyIndex = 0 ∧ running.schedule.waiting = none ∧
      (waitingFor .confirmed [.lockStore] running).schedule.waiting
        = some { trigger := .confirmed, actions := [.lockStore] }) := by decide +kernel

/-- The last write of a confirm may be any of the three: at epoch 64 with key 1 revoked already nothing more is called
for. -/
theorem witness_ConfirmWrites_last :
    confirmed.fuses.epochBits = thermometer confirmed.epoch ∧
      min params.securityVersion 64 ≤ confirmed.epoch ∧ confirmed.fuses.otherRevoked params = true ∧
      confirmed.boot.outcome = .booted booted ∧
      ∀ w ∈ [Write.confirmSlot { committed := .b, pending := none, trials := 0 },
        .confirmEpoch { slotState := false, epoch := false, revocation := false }],
        (confirmed.setWrite (some w)).alive = true := by decide +kernel

/-- R158, section 11.4: after the last step the deadline stops and the body ends in the bits of the steps. -/
theorem test_confirm_completes :
    leaves (exec .writeTakesEffect
        (confirmed.setWrite (some (.confirmSlot { committed := .b, pending := none, trials := 0 }))))
      (fun t => decide (t.schedule.deadline = .stopped)
        && decide (t.window.response.body = [2, 0, 0, 64, 2, 1])) = true ∧
    leaves (exec .writeTakesEffect (running.setWrite
        (some (.confirmRevoke { slotState := true, epoch := true, revocation := false }))))
      (fun t => decide (t.window.response.body = [1, 0, 0, 0, 2, 7])) = true := by decide +kernel

/-- R153: security version 70 blows all 64 bits, and the epoch is 64. -/
theorem test_epoch_rises : leaves
    (exec .writeTakesEffect
      (running.setWrite (some (.confirmEpoch { slotState := true, epoch := false, revocation := false }))))
    (fun t => decide (t.epoch = 64)) = true := by decide +kernel

/-! ## The Credential Store -/

def storeIn (state : StoreState) (attempts : Nat) : State :=
  running.setCred { state := state, attempts := attempts, frozen := false }

def frozen (s : State) : State := s.setCred { s.cred with frozen := true }

def proof : Bytes := List.replicate 32 7

def owned (attempts : Nat) : State :=
  (storeIn .locked attempts).setStore
    { running.store with verifier := some (running.fuses.ownerVerifierOf proof) }

theorem witness_OwnerRequests :
    (∀ s ∈ [frozen running, storeIn .locked 0, storeIn .lockedOut 5, marked running, storeIn .unlocked 4,
        running], (offering s .setOwner proof).offers .setOwner = true) ∧
    (running.setJob (.computeVerifier proof)).alive = true ∧
    (running.setWrite (some (.ownerVerifier proof))).alive = true ∧
    (frozen running).cred.frozen = true ∧ (marked running).store.marker.isSome = true ∧
    (marked running).cred.state = .unset ∧
    (∀ s ∈ [running, storeIn .unlocked 4, storeIn .lockedOut 5, storeIn .locked 4],
      (offering s .unlock proof).offers .unlock = true) ∧
    (((owned 4).setJob (.compareOwner proof)).alive = true ∧
      (owned 4).store.verifier = some (hmac (owned 4).fuses.uds
        ([0x45, 0x4A, 0x20, 0x6F, 0x77, 0x6E, 0x65, 0x72] ++ proof)) ∧
      (owned 4).schedule.waiting = none ∧
      (waitingFor .unlocked [.lockStore] (owned 4)).schedule.waiting
        = some { trigger := .unlocked, actions := [.lockStore] }) ∧
    (owned 4).store.verifier ≠ some (hmac (owned 4).fuses.uds
        ([0x45, 0x4A, 0x20, 0x6F, 0x77, 0x6E, 0x65, 0x72] ++ List.replicate 32 8)) := by decide +kernel

/-- R167: a match unlocks and does not restore the attempts used. -/
theorem test_unlock : leaves (exec .comparisonEnd ((owned 4).setJob (.compareOwner proof))) (fun t =>
    decide (t.cred.state = .unlocked) && decide (t.window.response.body = [2, 4])) = true := by decide +kernel

def recoverable : State :=
  (storeIn .locked 4).setFuses
    { Fuses.reset with recoveryVerifier := Fuses.reset.recoveryVerifierOf proof }

theorem witness_RecoveryRequests :
    (∀ action ∈ [0, 1, 2, 3], ∀ s ∈ [running, frozen running, storeIn .lockedOut 5, marked running,
        (storeIn .locked 0).setStore { running.store with recoveryLevel := .wipeOnly }, storeIn .locked 4],
      (offering s .recover (proof ++ [action])).offers .recover = true ∧
        byteAt (offering s .recover (proof ++ [action])).window.requestBody 32 = action) ∧
    (∀ wipe ∈ [true, false],
      (recoverable.setJob (.compareRecovery proof wipe)).alive = true ∧
      recoverable.fuses.recoveryVerifier = hmac recoverable.fuses.uds
        ([0x45, 0x4A, 0x20, 0x72, 0x65, 0x63, 0x6F, 0x76, 0x65, 0x72, 0x79] ++ proof)) ∧
    recoverable.fuses.recoveryVerifier ≠ hmac recoverable.fuses.uds
        ([0x45, 0x4A, 0x20, 0x72, 0x65, 0x63, 0x6F, 0x76, 0x65, 0x72, 0x79] ++ List.replicate 32 8) ∧
    (∀ level ∈ [0, 1, 2, 3],
      (offering running .setRecoveryLevel [level]).offers .setRecoveryLevel = true ∧
      byteAt (offering running .setRecoveryLevel [level]).window.requestBody 0 = level) ∧
    running.store.recoveryLevel = .full ∧
    (running.setWrite (some (.recoveryLevel .wipeOnly))).alive = true := by
  decide +kernel

theorem witness_FailedAttempt :
    ∀ n ∈ [0, 3, 4], ((storeIn .locked n).setWrite (some .failedTotal)).alive = true ∧
      (storeIn .locked n).quiet .unlockFailed = true := by
  decide +kernel

/-- The part at four attempts used, with a LOCKOUT entry in its watch list. -/
def alarmed (actions : List Action) : State :=
  ((storeIn .locked 4).setSchedule
    { running.schedule with watch := [entryFor .once false actions] }).setWrite (some .failedTotal)

/-- R165 item 4, R92: at the fifth attempt the LOCKOUT entry runs before the answer, and its REBOOT instead of it. -/
theorem test_lockout_fires :
    leaves (exec .writeTakesEffect (alarmed [.lineSet .l3 true, .freezeStore]))
      (fun t => t.cred.frozen && decide (t.schedule.watch.map (·.fired) = [true])
        && decide ((t.lines.ctl.get 2).driven = some false)
        && decide (t.window.response.status = .denied)
        && decide (t.window.response.body = [3, 5])) = true ∧
    leaves (exec .writeTakesEffect (alarmed [.reboot]))
      (fun t => decide (t.boot.cause = .warmSchedule) && decide (t.store.failedTotal = 1)
        && decide (t.cred.attempts = 0)) = true := by decide +kernel

/-- R165: the fifth attempt locks the store out. -/
theorem test_fifth_attempt : leaves
    (exec .writeTakesEffect ((storeIn .locked 4).setWrite (some .failedTotal)))
    (fun t => decide (t.cred.state = .lockedOut) && decide (t.flags = 0x200)
      && decide (t.window.response.status = .denied) && decide (t.window.response.body = [3, 5])) = true := by
  decide +kernel

theorem witness_LockAndFreeze :
    (∀ s ∈ [running, storeIn .locked 0, storeIn .unlocked 0, storeIn .lockedOut 5],
      (offering s .lock []).offers .lock = true ∧ (offering s .freeze []).offers .freeze = true) ∧
      (offering (marked running) .freeze []).offers .freeze = true := by decide +kernel

/-- Which states refuse a change of the store, and how (R164). -/
theorem witness_changes :
    (frozen running).changesRefused .frozen ∧ (storeIn .locked 0).changesRefused .denied ∧
      (storeIn .lockedOut 5).changesRefused .lockedOut ∧ (marked running).changesRefused .refusedState ∧
      running.changesAdmitted ∧ (storeIn .unlocked 0).changesAdmitted :=
  ⟨.inl ⟨rfl, rfl⟩, .inr (.inl ⟨rfl, rfl, rfl⟩), .inr (.inr (.inl ⟨rfl, rfl, rfl⟩)),
    .inr (.inr (.inr ⟨rfl, rfl, rfl, rfl⟩)), ⟨rfl, .inr ⟨rfl, rfl⟩⟩, ⟨rfl, .inl rfl⟩⟩

/-- The marker's granule is not the last, and is: the next is 0x021000, then none. -/
theorem witness_WipeRequest :
    ((offering running .wipe []).offers .wipe = true ∧
      running.ownerSpans = [{ base := 0x020000, limit := 0x030000 }]) ∧
    ((running.setWrite (some (.wipe []))).alive = true ∧
      (running.setWrite (some (.wipe running.ownerSpans))).alive = true ∧ running.port.openTx = .none) ∧
    (((marked running).setWrite (some .markerAdvance)).alive = true ∧
      (marked running).store.marker = some marker ∧ nextGranule marker.spans 0x020000 = some 0x021000 ∧
      nextGranule marker.spans 0x021000 = none ∧ running.boot.phase = .running) ∧
    (((instructed.takeByte 0x02).setWrite (some (.wipe running.ownerSpans))).alive = true ∧
      (instructed.takeByte 0x02).host.mayForward = true ∧ running.host.mayForward = false ∧
      (running.openForwarded none).port.openTx.forwarded = true) ∧
    ((marked completing).boot.phase = .completing ∧ (marked completing).schedule.waiting = none ∧
      (waitingFor .verified [.lockStore] (marked completing)).schedule.waiting
        = some { trigger := .verified, actions := [.lockStore] }) := by
  decide +kernel

/-- Section 9.5: the wipe empties the store and begins the first granule's ready wait with the port taken. -/
theorem test_wipe : leaves (exec .writeTakesEffect (running.setWrite (some (.wipe running.ownerSpans))))
    (fun t => decide (t.store.marker.map (·.next) = some 0x020000) && decide (t.port.owner = .engine)
      && decide (t.port.openTx = .engineStatus (pollOf classes))) = true := by decide +kernel

def twoSpans : List Span :=
  [{ base := 0, limit := 0x2000 }, { base := 0x2000, limit := 0x3000 }]

theorem witness_MarkerVisitsEveryGranule :
    (∀ p ∈ twoSpans, p.base % 4096 = 0 ∧ p.limit % 4096 = 0 ∧ p.base < p.limit) ∧
      twoSpans.Pairwise (fun p q => p.limit ≤ q.base) := by decide

/-- A policy that asks for nothing but the four verdicts. -/
def policy : Policy :=
  { ownerRequired := 0, minEpoch := 0, verdicts := 15, forbidden := 0, presence := 0
    label := List.replicate 4 0, expected := List.replicate 32 0 }

def credential (kind : CredKind) (n : Nat) (p : Policy) : Credential :=
  { label := List.replicate 8 0x4C, kind := kind, value := List.replicate n 9, policy := p }

def putBody (index kind length : Byte) (n : Nat) (p : Policy) : Bytes :=
  [index, kind] ++ List.replicate 8 0x4C ++ p.bytes ++ [length] ++ List.replicate n 9

/-- Values of 1 and 64 bytes at indexes 0 and 15 with the widest policy; then each value the body does not admit. -/
theorem witness_PutAndDeleteCredential :
    ((∀ n ∈ [1, 64], ∀ i ∈ [0, 15],
        (offering running .putCredential (putBody (byteOf i) 1 (byteOf n) n policy)).offers .putCredential
          = true ∧
        (offering running .putCredential (putBody (byteOf i) 1 (byteOf n) n policy)).window.requestBody
          = putBody (byteOf i) (credential .secret n policy).kind.code (byteOf n) n policy) ∧
      policy.label.length = 4 ∧ policy.expected.length = 32 ∧
      { policy with minEpoch := 64, forbidden := 1023, presence := 1 }.admitted = true) ∧
    (∀ body ∈ [putBody 16 1 1 1 policy, putBody 0 0 1 1 policy, putBody 0 3 1 1 policy,
          putBody 0 1 2 1 policy, putBody 0 1 0 1 policy, putBody 0 1 65 1 policy,
          putBody 0 1 1 1 { policy with minEpoch := 65 }, putBody 0 1 1 1 { policy with verdicts := 0 },
          putBody 0 1 1 1 { policy with verdicts := 16 }, putBody 0 1 1 1 { policy with forbidden := 1024 },
          putBody 0 1 1 1 { policy with presence := 2 }],
        (offering running .putCredential body).offers .putCredential = true ∧
          putOf (offering running .putCredential body).window.requestBody = none) ∧
    (∀ i ∈ [0, 15, 16], (offering running .deleteCredential [i]).offers .deleteCredential = true) ∧
    ((running.setWrite (some (.putCredential 15 (credential .key 64 policy)))).alive = true ∧
      (running.setWrite (some (.deleteCredential 0))).alive = true) := by decide +kernel

def holding (kind : CredKind) (p : Policy) : State :=
  running.setStore
    { running.store with creds := running.store.creds.setIfInBounds 15 (some (credential kind 64 p)) }

theorem witness_CredentialUse :
    (∀ i ∈ [0, 15, 16], ∀ kind ∈ [CredKind.secret, CredKind.key],
      (offering (holding kind policy) .getCredential [i]).offers .getCredential = true ∧
      (offering (holding kind policy) .macWithCredential [i, 1]).offers .macWithCredential = true) ∧
    ((holding .secret policy).credential 15 = some (credential .secret 64 policy) ∧
      (holding .secret policy).credential 0 = none ∧ (holding .key policy).boot.outcome = .booted booted ∧
      running.policyFailures booted policy = 0 ∧
      running.policyFailures booted { policy with ownerRequired := 1, verdicts := 2, minEpoch := 1 } = 7 ∧
      running.quiet .credDenied = true) ∧
    (running.setJob (.computeMac [1] [])).alive = true ∧
    (offering (holding .key policy) .listCredentials []).offers .listCredentials = true := by decide +kernel

/-- R178, section 11.5: a KEY record is never answered by GET_CREDENTIAL; the denial carries KIND alone. -/
theorem test_key_not_disclosed : leaves
    (exec .getCredential (offering (holding .key { policy with ownerRequired := 1 }) .getCredential [15]))
    (fun t => decide (t.window.response.status = .denied) && decide (t.window.response.body = [0x20])
      && decide (t.log.ring.map (·.incident) = [{ kind := .credDenied, instr := 0, region := 0xFF
                                                  detail := 0x20, addr := 15 }])) = true := by decide +kernel

/-! ## The Incident Log -/

def entry (n : Nat) : LogEntry :=
  { seq := BitVec.ofNat 32 n
    incident := { kind := .portHeld, instr := 3, region := 0xFF, detail := 0, addr := 0 }, bootCount := 1 }

/-- A full ring, its entries numbered 1 to 32. -/
def fullRing : State :=
  running.setLog { IncidentLog.start with ring := (List.range' 1 32).map entry, seq := 32 }

/-- A threshold that the next PORT_HELD reaches. -/
def atThreshold : State :=
  running.setLog
    { IncidentLog.start with
      thresholds := IncidentLog.start.thresholds.set IncidentKind.portHeld.index 1 }

theorem witness_LoggingAnIncident :
    atThreshold.log.reaches .portHeld = true ∧ fullRing.log.reaches .portHeld = false ∧
      fullRing.log.ring.length = 32 := by decide +kernel

/-- R183: the oldest entry leaves a full ring. -/
theorem test_ring_wraps : leaves (logIncident (entry 1).incident fullRing).result (fun t =>
    decide (t.log.ring.length = 32) && decide (t.log.ring.head?.map (·.seq) = some 2)
      && decide (t.log.newest = 33)) = true := by decide +kernel

/-- R186: reaching a threshold sets INCIDENT_THRESHOLD. -/
theorem test_threshold : leaves (logIncident (entry 1).incident atThreshold).result (fun t =>
    decide (t.flags = 0x100)) = true := by decide +kernel

theorem witness_ReadLogRequest :
    ∀ m ∈ [0, 1, 32, 33], (offering fullRing .readLog [1, 0, 0, 0, m]).offers .readLog = true ∧
      byteAt (offering fullRing .readLog [1, 0, 0, 0, m]).window.requestBody 4 = m := by decide +kernel

/-- Section 10.4: from number 31, at most 5: entries 31 and 32, oldest 1, newest 32. -/
theorem test_read_log : leaves (exec .readLog (offering fullRing .readLog [31, 0, 0, 0, 5])) (fun t =>
    decide (t.window.response.body.take 8 = [1, 0, 0, 0, 32, 0, 0, 0])
      && decide (t.window.response.body.length = 8 + 28 + 1 + 2 * 16)) = true := by decide +kernel

/-! ## The invariants -/

/-- The first write of the part's life is about to take effect. -/
def firstStep : State := { State.reset with pending := [.writeTakesEffect] }

theorem witness_StepKeepsTheHostHeld :
    firstStep.heldHostSafe ∧ completes (step firstStep) = true := by
  refine ⟨fun _ => ⟨rfl, ?_, rfl⟩, by decide +kernel⟩
  intro e h
  cases h

/-- The attempt that locks the store out keeps it exact. -/
theorem witness_StepKeepsLockoutExact :
    { (storeIn .locked 4).setWrite (some .failedTotal) with pending := [.writeTakesEffect] }.lockoutExact ∧
      leaves (step { (storeIn .locked 4).setWrite (some .failedTotal) with pending := [.writeTakesEffect] })
        (fun t => decide (t.cred.attempts = 5)) = true :=
  ⟨⟨by decide, by decide, by decide, by decide⟩, by decide +kernel⟩

theorem witness_StepKeepsTheRingNumbered :
    fullRing.log.numbered ∧
      leaves (step ({ (fullRing.setPort { fullRing.port with owner := .engine }) with
          pending := [.hostTransactionBegin] })) (fun t => decide (t.log.ring.length = 32)) = true :=
  ⟨⟨by decide, by decide, by decide +kernel⟩, by decide +kernel⟩

theorem witness_StepKeepsTheNonvolatileRecords :
    (running.setSlots pendingB).slotsLegal ∧
      completes (step { (running.setSlots pendingB).setWrite (some .abortPending) with
        pending := [.writeTakesEffect] }) = true :=
  ⟨⟨by decide, by intro v h; cases h⟩, by decide +kernel⟩

/-- OPEN_STAGE on a stack of the three start-up entries. -/
theorem witness_StepKeepsTheStackShape :
    (let s := { offering (completing.setBoot running.boot) .openStage stage with
        pending := [.openStage], job := .idle
        stack := completing.startUpStack booted }
     s.stackShaped ∧ leaves (step s) (fun t => decide (t.stack.top = 4)) = true) :=
  ⟨⟨by decide, by decide +kernel, by decide +kernel, by decide +kernel, fun _ _ => .inr (by decide +kernel)⟩,
    by decide +kernel⟩

/-- A program of the OPEN span, at the step that opens it. -/
theorem witness_StepKeepsTheFirstLaw :
    (let s := { addressing instructed 0x02 with pending := [.program [0x30, 0x00, 0xFF]] }
     s.lawful ∧ leaves (step s) (fun t => t.port.openTx.forwarded) = true) := by
  refine ⟨⟨⟨by decide +kernel, by decide +kernel, fun h => absurd h (by decide +kernel)⟩, ?_⟩,
    by decide +kernel⟩
  intro b h
  cases h
  exact ⟨by decide +kernel, fun _ _ _ _ _ _ h => nomatch h⟩

end Sys2Proof.Tests
end

section
/-! PROOFS. Chapter 2: the segment that holds an address, the effective rule, and TIGHTEN_REGION. -/

namespace Sys2Proof.Machine

/-! ## The gap around an address (R25) -/

@[simp] theorem RegionRecord.holds_iff (r : RegionRecord) (a : Nat) :
    r.holds a = true ↔ r.base ≤ a ∧ a < r.limit := by
  simp [RegionRecord.holds]

theorem gapFirst_concat (rs : List RegionRecord) (r : RegionRecord) (a : Nat) :
    gapFirst (rs ++ [r]) a
      = if r.limit ≤ a then max (gapFirst rs a) r.limit else gapFirst rs a := by
  simp [gapFirst]

theorem gapLimit_concat (rs : List RegionRecord) (r : RegionRecord) (size a : Nat) :
    gapLimit (rs ++ [r]) size a
      = if a < r.base then min (gapLimit rs size a) r.base else gapLimit rs size a := by
  simp [gapLimit]

/-- The gap around an address begins no later than it. -/
theorem gapFirst_le (rs : List RegionRecord) (a : Nat) : gapFirst rs a ≤ a := by
  induction rs using List.reverseRecOn with
  | nil => exact a.zero_le
  | append_singleton rs r ih =>
    rw [gapFirst_concat]
    split <;> omega

/-- The gap around an address ends after it. -/
theorem lt_gapLimit (rs : List RegionRecord) {size a : Nat} (h : a < size) : a < gapLimit rs size a := by
  induction rs using List.reverseRecOn with
  | nil => exact h
  | append_singleton rs r ih =>
    rw [gapLimit_concat]
    split <;> omega

/-- A record that ends at or below an address ends before the gap around it begins. -/
theorem limit_le_gapFirst {rs : List RegionRecord} {r : RegionRecord} {a : Nat} (hr : r ∈ rs)
    (hl : r.limit ≤ a) : r.limit ≤ gapFirst rs a := by
  induction rs using List.reverseRecOn with
  | nil => simp at hr
  | append_singleton rs q ih =>
    rw [gapFirst_concat]
    rcases List.mem_append.mp hr with hr | hr
    · have := ih hr
      split <;> omega
    · obtain rfl := List.mem_singleton.mp hr
      rw [if_pos hl]
      exact le_max_right _ _

/-- A record that begins above an address begins at the end of the gap around it or later. -/
theorem gapLimit_le_base {rs : List RegionRecord} {r : RegionRecord} {a : Nat} (size : Nat)
    (hr : r ∈ rs) (hb : a < r.base) : gapLimit rs size a ≤ r.base := by
  induction rs using List.reverseRecOn with
  | nil => simp at hr
  | append_singleton rs q ih =>
    rw [gapLimit_concat]
    rcases List.mem_append.mp hr with hr | hr
    · have := ih hr
      split <;> omega
    · obtain rfl := List.mem_singleton.mp hr
      rw [if_pos hb]
      exact min_le_right _ _

/-- A gap begins at address 0 or where a record ends. -/
theorem gapFirst_eq_zero_or_limit (rs : List RegionRecord) (a : Nat) :
    gapFirst rs a = 0 ∨ ∃ r ∈ rs, r.limit = gapFirst rs a := by
  induction rs using List.reverseRecOn with
  | nil => exact .inl rfl
  | append_singleton rs r ih =>
    rw [gapFirst_concat]
    grind

/-- A gap ends at the end of the flash or where a record begins. -/
theorem gapLimit_eq_size_or_base (rs : List RegionRecord) (size a : Nat) :
    gapLimit rs size a = size ∨ ∃ r ∈ rs, r.base = gapLimit rs size a := by
  induction rs using List.reverseRecOn with
  | nil => exact .inl rfl
  | append_singleton rs r ih =>
    rw [gapLimit_concat]
    grind

/-- Where no record holds an address, none holds any address of the gap around it. -/
theorem not_holds_of_mem_gap {rs : List RegionRecord} {size a x : Nat}
    (hfree : ∀ r ∈ rs, r.holds a = false) (hfirst : gapFirst rs a ≤ x) (hlimit : x < gapLimit rs size a)
    {r : RegionRecord} (hr : r ∈ rs) : r.holds x = false := by
  have ha := hfree r hr
  simp only [Bool.eq_false_iff, ne_eq, RegionRecord.holds_iff] at ha ⊢
  rcases Nat.lt_or_ge a r.base with hb | hb
  · have := gapLimit_le_base size hr hb
    omega
  · have := limit_le_gapFirst hr (a := a) (by omega)
    omega

/-! ## Lookup (R26) -/

/-- What lookup answers: a record that holds the address, or the gap around it where no record does. -/
theorem lookup_cases (s : State) (a : Nat) :
    (∃ i r, s.lookup a = .record i ∧ s.regions.records[i]? = some r ∧ r.holds a = true) ∨
      (s.lookup a = .gap (gapFirst s.regions.records a) (gapLimit s.regions.records s.flashSize a) ∧
        ∀ r ∈ s.regions.records, r.holds a = false) := by
  cases h : s.regions.records.findIdx? fun r => r.holds a with
  | some i =>
    obtain ⟨hi, hholds, -⟩ := List.findIdx?_eq_some_iff_getElem.mp h
    exact .inl ⟨i, _, by simp [State.lookup, h], List.getElem?_eq_getElem hi, hholds⟩
  | none => exact .inr ⟨by simp [State.lookup, h], List.findIdx?_eq_none_iff.mp h⟩

/-- Settles O30: by what lookup answers, a record that holds the address or the gap that the nearest record ends
and beginnings bound. -/
theorem lookupFindsTheSegment : Obligations.LookupFindsTheSegment := by
  intro s a ha
  rcases lookup_cases s a with ⟨i, r, hl, hr, hh⟩ | ⟨hl, hfree⟩
  · refine ⟨by simpa [hl, State.inSegment, State.recordOf, hr] using hh, fun j hj => ?_, fun f l hg => ?_⟩
    · obtain rfl : i = j := by simpa [hl] using hj
      exact ⟨r, hr, (r.holds_iff a).mp hh⟩
    · simp [hl] at hg
  · refine ⟨?_, fun j hj => ?_, fun f l hg => ?_⟩
    · simp [hl, State.inSegment, gapFirst_le, lt_gapLimit _ ha]
    · simp [hl] at hj
    · obtain ⟨rfl, rfl⟩ : gapFirst s.regions.records a = f ∧ gapLimit s.regions.records s.flashSize a = l := by
        simpa [hl] using hg
      refine ⟨fun r hr x hf hx hx' => ?_, gapFirst_eq_zero_or_limit _ a, gapLimit_eq_size_or_base _ _ a⟩
      have := not_holds_of_mem_gap hfree hf hx hr
      simp [(r.holds_iff x).mpr hx'] at this

/-! ## The effective rule (R28 to R30) -/

theorem Access.rank_le_stricter_left (x y : Access) : x.rank ≤ (x.stricter y).rank := by
  unfold Access.stricter
  split <;> omega

theorem Access.rank_le_stricter_right (x y : Access) : y.rank ≤ (x.stricter y).rank := by
  unfold Access.stricter
  split <;> omega

/-- NO_ACCESS is the strictest rule. -/
theorem Access.eq_noAccess_of_rank_le {x : Access} (h : Access.noAccess.rank ≤ x.rank) : x = .noAccess := by
  cases x <;> simp_all [Access.rank]

/-- No level of tightening loosens a rule. -/
theorem Tightening.rank_le_apply (t : Tightening) (x : Access) : x.rank ≤ (t.apply x).rank := by
  cases t with
  | none => exact le_refl _
  | readOnly => exact x.rank_le_stricter_left .readOnly
  | noAccess => exact x.rank_le_stricter_left .noAccess

theorem Tightening.apply_readOnly_ne_openAll (x : Access) : Tightening.readOnly.apply x ≠ .openAll := by
  intro h
  have : Access.readOnly.rank ≤ (Tightening.readOnly.apply x).rank := x.rank_le_stricter_right .readOnly
  simp [h, Access.rank] at this

theorem Tightening.apply_noAccess (x : Access) : Tightening.noAccess.apply x = .noAccess :=
  Access.eq_noAccess_of_rank_le (x.rank_le_stricter_right .noAccess)

theorem State.effectiveRule_gap (s : State) (first limit : Nat) :
    s.effectiveRule (.gap first limit) = s.regions.defaultRule := rfl

theorem State.effectiveRule_record {s : State} {i : Nat} {r : RegionRecord}
    (h : s.regions.records[i]? = some r) : s.effectiveRule (.record i) = r.tight.apply (s.baseRule r) := by
  simp [State.effectiveRule, State.recordOf, h]

theorem State.ownerRule_eq (s : State) :
    s.ownerRule = if s.cred.state = .unlocked ∨ (s.cred.state = .unset ∧ s.store.marker = none)
      then .openAll else .noAccess := by
  unfold State.ownerRule State.wipePending
  cases s.cred.state <;> cases s.store.marker <;> simp

theorem State.baseRule_owner (s : State) {r : RegionRecord} (h : r.rule = .owner) :
    s.baseRule r = s.ownerRule := by
  simp [State.baseRule, h]

theorem State.baseRule_spare (s : State) {r : RegionRecord} (h : r.rule = .spare) :
    s.baseRule r = s.session.spareRule := by
  simp [State.baseRule, h]

/-- Settles O31: the base rules by their cases, and tightening because the stricter of two rules is no looser than
either. -/
theorem effectiveRules : Obligations.EffectiveRules := by
  refine ⟨fun s r h => ?_, fun s r h => ?_, State.effectiveRule_gap, fun s i r h => ?_⟩
  · rw [s.baseRule_owner h, s.ownerRule_eq]
  · rw [s.baseRule_spare h]
    cases s.session <;> rfl
  · rw [State.effectiveRule_record h]
    refine ⟨r.tight.rank_le_apply _, fun ht => ?_, fun ht => ?_, fun ht => ?_⟩ <;> rw [ht]
    · rfl
    · exact Tightening.apply_readOnly_ne_openAll _
    · exact Tightening.apply_noAccess _

/-! ## TIGHTEN_REGION (R46) -/

theorem tighteningLevel_eq_some_iff {b : Byte} {level : Tightening} :
    tighteningLevel b = some level ↔ (b = 2 ∧ level = .readOnly) ∨ (b = 3 ∧ level = .noAccess) := by
  unfold tighteningLevel
  grind

/-- The level a request byte names has that byte as its code. -/
theorem code_of_tighteningLevel {b : Byte} {level : Tightening} (h : tighteningLevel b = some level) :
    level.code = b := by
  rcases tighteningLevel_eq_some_iff.mp h with ⟨rfl, rfl⟩ | ⟨rfl, rfl⟩ <;> rfl

theorem Tightening.code_injective : Function.Injective Tightening.code := by
  intro x y h
  cases x <;> cases y <;> simp_all [Tightening.code]

theorem State.setTightening_eq_set {s : State} {i : Nat} {r : RegionRecord}
    (h : s.regions.records[i]? = some r) (level : Tightening) :
    s.setTightening i level = s.setRegions
      { s.regions with records := s.regions.records.set i { r with tight := level } } := by
  simp [State.setTightening, List.modify_eq_set_getElem?, h]

/-- Taking a request leaves no trace once it is answered. -/
@[simp] theorem State.respond_taken (s : State) (status : Status) (body : Bytes) :
    (s.setWindow { s.window with dispatched := none }).respond status body = s.respond status body := rfl

/-- An answer changes the window alone. -/
theorem State.respond_onlyChanges (s : State) (status : Status) (body : Bytes) :
    s.onlyChanges (s.respond status body) [.window] := by
  intro f hf
  cases f with
  | window => simp at hf
  | _ => rfl

/-- An answered change of the Region Table changes the table and the window alone. -/
theorem State.setRegions_respond_onlyChanges (s : State) (table : RegionTable) (status : Status)
    (body : Bytes) : s.onlyChanges ((s.setRegions table).respond status body) [.regions, .window] := by
  intro f hf
  cases f with
  | regions | window => simp at hf
  | _ => rfl

/-- The OK line of R46's table: the record takes the level, and the answer gives index and level. -/
theorem exec_tightenRegion_admitted {s : State} {r : RegionRecord} {level : Tightening}
    (h : s.offers .tightenRegion = true)
    (hr : s.regions.records[(byteAt s.window.requestBody 0).toNat]? = some r) (hm : r.rule ≠ .mailbox)
    (hl : tighteningLevel (byteAt s.window.requestBody 1) = some level)
    (hrank : r.tight.rank ≤ level.rank) :
    exec .tightenRegion s = .next
      ((s.setTightening (byteAt s.window.requestBody 0).toNat level).respond .ok
        [byteAt s.window.requestBody 0, byteAt s.window.requestBody 1]) := by
  change execTightenRegion s = _
  rw [execTightenRegion, takeRequest_of_offers h]
  simp only [State.setWindow_regions, hr, hl, hm, if_false, hrank.not_gt, code_of_tighteningLevel hl]
  rfl

/-- Every other line of R46's table: no record, the MAILBOX record, no level, or one below the present. -/
theorem exec_tightenRegion_refused {s : State} (h : s.offers .tightenRegion = true)
    (hno : ∀ r level, s.regions.records[(byteAt s.window.requestBody 0).toNat]? = some r →
      r.rule ≠ .mailbox → tighteningLevel (byteAt s.window.requestBody 1) = some level →
      level.rank < r.tight.rank) :
    exec .tightenRegion s = .next (s.respond .badArgument []) := by
  change execTightenRegion s = _
  rw [execTightenRegion, takeRequest_of_offers h]
  simp only [State.setWindow_regions, State.respond_taken]
  cases hr : s.regions.records[(byteAt s.window.requestBody 0).toNat]? with
  | none => rfl
  | some r =>
    by_cases hm : r.rule = .mailbox
    · simp only [hm, if_true]
    · cases hl : tighteningLevel (byteAt s.window.requestBody 1) with
      | none => simp only [hm, if_false]
      | some level => simp only [hm, if_false, if_pos (hno r level hr hm hl)]

/-- Settles O32: each admitted or refused combination is a line of R46's table. -/
theorem tightenRegionRequest : Obligations.TightenRegionRequest := by
  intro s h body index
  refine ⟨fun r level hr hm hl hrank => ?_, fun r level hbad => ?_⟩
  · have hl := tighteningLevel_eq_some_iff.mpr hl
    refine ⟨_, exec_tightenRegion_admitted h hr hm hl hrank, ?_⟩
    rw [State.setTightening_eq_set hr]
    exact ⟨s.setRegions_respond_onlyChanges _ _ _, rfl, rfl⟩
  · refine ⟨_, exec_tightenRegion_refused h fun q named hq hm hnamed => ?_,
      s.respond_onlyChanges _ _, rfl⟩
    rcases hbad with hnone | ⟨hr, hmail | ⟨h2, h3⟩ | ⟨hcode, hlower⟩⟩
    · exact absurd (hnone.symm.trans hq) (by simp)
    all_goals obtain rfl : r = q := Option.some_inj.mp (hr.symm.trans hq)
    · exact absurd hmail hm
    · rcases tighteningLevel_eq_some_iff.mp hnamed with ⟨hb, -⟩ | ⟨hb, -⟩
      · exact absurd hb h2
      · exact absurd hb h3
    · obtain rfl : named = level :=
        Tightening.code_injective ((code_of_tighteningLevel hnamed).trans hcode.symm)
      exact hlower

end Sys2Proof.Machine
end

section
/-! PROOFS. Chapter 3: the byte of a request-area program that frame assembly appends, and the header that the 8th
byte completes. -/

namespace Sys2Proof.Machine

/-! ## Request-area bytes (R52 to R54) -/

/-- What `State.programming` says, condition by condition. -/
theorem State.programming_iff (s : State) (d : Decision) (a : Nat) :
    s.programming d a = true ↔ s.pins.supply = true ∧ s.host.phase = .data ∧
      (∃ e, s.host.entry = some e ∧ e.cls = .program) ∧ s.host.decision = some d ∧
      s.host.addr = some a ∧ s.host.discarding = false := by
  simp [State.programming, Option.any_eq_true, and_assoc]

/-- A data byte of a PROGRAM to the request area is offered to frame assembly (R52). -/
theorem exec_programDataByte_window {s : State} {a : Nat} {m : Nat × RegionRecord} (b : Byte)
    (hp : s.programming .window a = true) (hm : s.mailbox = some m) :
    exec (.programDataByte b) s = .next (assembleByte b (s.windowOffset a) s).state := by
  obtain ⟨hsupply, hphase, ⟨e, he, hcls⟩, hd, ha, -⟩ := (s.programming_iff _ a).mp hp
  change execProgramDataByte b s = _
  simp [execProgramDataByte, programByte, hsupply, hphase, he, hcls, hd, ha, hm]

/-- The first byte of a program lands at the program's own offset (R52). -/
@[simp] theorem landing_zero (w : Nat) : landing w 0 = w := by
  unfold landing
  omega

/-- The byte of a program is counted. -/
def State.countByte (s : State) : State :=
  s.setHost { s.host with dataCount := s.host.dataCount + 1 }

/-- While a frame is ASSEMBLING, a byte that lands at the received count is appended, the program's first and a later
one alike (R53, R54). -/
theorem assembleByte_at_count {s : State} {w : Nat} (b : Byte) (hd : s.host.discarding = false)
    (hs : s.window.state = .assembling) (hl : landing w s.host.dataCount = s.window.buffer.length) :
    assembleByte b w s = appendByte b s.countByte := by
  by_cases hj : s.host.dataCount = 0
  · obtain rfl : w = s.window.buffer.length := by simpa [hj] using hl
    simp [assembleByte, firstByte, State.countByte, hd, hs, hj]
  · simp [assembleByte, laterByte, State.countByte, hd, hs, hj, hl]

/-! ## The header (R55, section 11.2) -/

/-- Two bytes in range, one after the other. -/
theorem slice_two {bs : Bytes} {k : Nat} (h : k + 1 < bs.length) :
    slice bs k 2 = [byteAt bs k, byteAt bs (k + 1)] := by
  have hk : k < bs.length := by omega
  rw [slice, byteAt, byteAt, List.drop_eq_getElem_cons hk, List.drop_eq_getElem_cons h,
    List.getD_eq_getElem _ _ hk, List.getD_eq_getElem _ _ h]
  rfl

/-- The header's fields, byte by byte (section 11.2). -/
theorem decodeHeader_eq {bs : Bytes} (h : bs.length = 8) :
    decodeHeader bs =
      { magic := bs.take 3, code := byteAt bs 3
        tag := BitVec.ofNat 16 (ofLe [byteAt bs 4, byteAt bs 5])
        bodyLength := ofLe [byteAt bs 6, byteAt bs 7] } := by
  rw [decodeHeader, slice_two (by omega), slice_two (by omega)]
  rfl

/-- The 8th byte completes the header. -/
theorem appendByte_eighth {s : State} (b : Byte) (h : s.window.buffer.length = 7) :
    appendByte b s = headerComplete
      (s.setWindow { s.window with state := .assembling, buffer := s.window.buffer ++ [b] }) := by
  simp [appendByte, h]

/-- An accepted header is kept, with the length of its frame. -/
theorem headerComplete_accepts {s : State} {h : FrameHeader} (hh : decodeHeader s.window.buffer = h)
    (hmagic : h.magic = requestMagic) (hlen : h.bodyLength ≤ Config.maxBody) :
    headerComplete s = .on (s.setWindow
      { s.window with header := some h, frameLength := some (8 + h.bodyLength + 2) }) := by
  rw [headerComplete, hh, if_pos ⟨hmagic, hlen⟩]

/-- A rejected header is answered BAD_FRAME and logged; no threshold is reached. -/
theorem headerComplete_rejects {s : State} {h : FrameHeader} (hh : decodeHeader s.window.buffer = h)
    (hbad : h.magic ≠ requestMagic ∨ Config.maxBody < h.bodyLength) (hq : s.quiet .frameBad = true) :
    headerComplete s = .on
      (((s.setWindow (s.window.reject .badFrame h)).discardRest).recordIncident
        (s.windowIncident .frameBad Detail.header)) := by
  have hnot : ¬(h.magic = requestMagic ∧ h.bodyLength ≤ Config.maxBody) := by
    rwa [not_and_or, Nat.not_le]
  rw [headerComplete, hh, if_neg hnot]
  exact logIncident_quiet ((quiet_of_log rfl _).trans hq)

/-- The state in which the 8th byte's header is decided: the byte is counted and appended. -/
def State.withEighth (s : State) (b : Byte) : State :=
  s.countByte.setWindow { s.window with state := .assembling, buffer := s.window.buffer ++ [b] }

/-- The step of a frame's 8th byte is the decision of its header. -/
theorem exec_programDataByte_eighth {s : State} {a : Nat} {m : Nat × RegionRecord} (b : Byte)
    (hp : s.programming .window a = true) (hm : s.mailbox = some m)
    (hs : s.window.state = .assembling) (h7 : s.window.buffer.length = 7)
    (hl : landing (s.windowOffset a) s.host.dataCount = 7) :
    exec (.programDataByte b) s = .next (headerComplete (s.withEighth b)).state := by
  obtain ⟨-, -, -, -, -, hd⟩ := (s.programming_iff _ a).mp hp
  rw [exec_programDataByte_window b hp hm, assembleByte_at_count b hd hs (hl.trans h7.symm),
    appendByte_eighth (s := s.countByte) b h7]
  rfl

/-- A window incident of a program in the MAILBOX record, its fields in full (R54). -/
theorem State.windowIncident_eq {s : State} {a : Nat} {m : Nat × RegionRecord} (hm : s.mailbox = some m)
    (ha : s.host.addr = some a) (kind : IncidentKind) (detail : Byte) :
    s.windowIncident kind detail =
      { kind := kind, instr := s.host.instr.getD 0, region := byteOf m.1, detail := detail, addr := a } := by
  simp [State.windowIncident, State.hostIncident, hm, ha]

/-- Settles O26: the step of the 8th byte is the decision of the header it completes, which accepts or rejects. -/
theorem eighthByteDecidesTheHeader : Obligations.EighthByteDecidesTheHeader := by
  intro s a b m hp hm hs h7 hl frame h
  obtain ⟨-, -, -, -, ha, -⟩ := (s.programming_iff _ a).mp hp
  have hstep := exec_programDataByte_eighth b hp hm hs h7 hl
  have hdecode : decodeHeader (s.withEighth b).window.buffer = h :=
    decodeHeader_eq (by simp [State.withEighth, h7])
  refine ⟨fun hmagic hlen => ?_, fun hbad hq => ?_⟩
  · rw [headerComplete_accepts hdecode hmagic hlen] at hstep
    refine ⟨_, hstep, fun f hf => ?_, ?_⟩
    · cases f with
      | host | window => simp at hf
      | _ => rfl
    · simp [State.withEighth, hs, frame]
  · rw [headerComplete_rejects hdecode hbad hq,
      State.windowIncident_eq (s := s.withEighth b) hm ha] at hstep
    refine ⟨_, hstep, fun f hf => ?_, rfl, rfl, rfl⟩
    cases f with
    | host | window | log => simp at hf
    | _ => rfl

end Sys2Proof.Machine
end

section
/-! PROOFS. Chapter 6: what an update leaves unchanged, OPEN_STAGE, and EXTEND with the hash that completes it. -/

namespace Sys2Proof.Machine

/-! ## Frames, an update at a time -/

section
variable {s t : State} {changed : List Field}

theorem State.onlyChanges.refl (s : State) (changed : List Field) : s.onlyChanges s changed := by
  intro f _
  cases f <;> rfl

theorem State.onlyChanges.setWindow (h : s.onlyChanges t changed) (w : Window)
    (hw : .window ∈ changed) : s.onlyChanges (t.setWindow w) changed := by
  intro f hf
  cases f with
  | window => exact absurd hw hf
  | _ => exact h _ hf

theorem State.onlyChanges.setStack (h : s.onlyChanges t changed) (k : Stack)
    (hk : .stack ∈ changed) : s.onlyChanges (t.setStack k) changed := by
  intro f hf
  cases f with
  | stack => exact absurd hk hf
  | _ => exact h _ hf

theorem State.onlyChanges.setFlags (h : s.onlyChanges t changed) (v : BitVec 10)
    (hv : .flags ∈ changed) : s.onlyChanges (t.setFlags v) changed := by
  intro f hf
  cases f with
  | flags => exact absurd hv hf
  | _ => exact h _ hf

theorem State.onlyChanges.setLog (h : s.onlyChanges t changed) (l : IncidentLog)
    (hl : .log ∈ changed) : s.onlyChanges (t.setLog l) changed := by
  intro f hf
  cases f with
  | log => exact absurd hl hf
  | _ => exact h _ hf

theorem State.onlyChanges.setJob (h : s.onlyChanges t changed) (j : Job)
    (hj : .job ∈ changed) : s.onlyChanges (t.setJob j) changed := by
  intro f hf
  cases f with
  | job => exact absurd hj hf
  | _ => exact h _ hf

end

/-! ## A refusal of the stack (R117, R121, R125) -/

/-- A refusal that reaches no threshold sets its flag, logs STACK_REFUSED and answers. -/
theorem refuseStack_quiet {s : State} (hq : s.quiet .stackRefused = true) (status : Status)
    (detail : Byte) (flag : Flag) :
    refuseStack status detail flag s = .next
      (((s.raiseFlag flag).recordIncident (plainIncident .stackRefused noRegion detail 0)).respond
        status []) := by
  have hlog := logIncident_quiet (i := plainIncident .stackRefused noRegion detail 0)
    ((quiet_of_log (State.raiseFlag_log s flag) _).trans hq)
  simp [refuseStack, hlog]

/-- What a taken request comes to that the stack refuses. -/
theorem refuseStack_taken {s : State} (hq : s.quiet .stackRefused = true) (status : Status)
    (detail : Byte) (flag : Flag) :
    ∃ t, refuseStack status detail flag (s.setWindow { s.window with dispatched := none }) = .next t ∧
      s.onlyChanges t [.flags, .log, .window] ∧ t.flags = s.flags ||| (1#10 <<< flag.bit) ∧
      s.logged t { kind := .stackRefused, instr := 0, region := 0xFF, detail := detail, addr := 0 } ∧
      s.answered t status [] := by
  refine ⟨_, refuseStack_quiet ((quiet_of_log (State.setWindow_log s _) _).trans hq) _ _ _,
    ?_, rfl, rfl, rfl⟩
  exact (((State.onlyChanges.refl s _).setWindow _ (by simp)).setFlags _ (by simp)).setLog _ (by simp)
    |>.setWindow _ (by simp)

/-! ## OPEN_STAGE (R115 to R117) -/

section
variable {s : State} {b : Booted}

/-- An OPEN top entry refuses a further stage (R115). -/
theorem exec_openStage_over_open (h : s.offers .openStage = true) (hb : s.boot.outcome = .booted b)
    (ho : s.stack.openTop.isSome = true) :
    exec .openStage s = refuseStack .refusedState Detail.stageOpen .stageOrder
      (s.setWindow { s.window with dispatched := none }) := by
  change execOpenStage s = _
  rw [execOpenStage, takeRequest_of_offers h, withBooted_of (by exact hb)]
  exact if_pos ho

/-- With room and no OPEN top entry the entry at the top index is opened (R115). -/
theorem exec_openStage_with_room (h : s.offers .openStage = true) (hb : s.boot.outcome = .booted b)
    (ho : s.stack.openTop = none) (ht : s.stack.top < 8) :
    exec .openStage s = .next
      ((s.setStack (s.stack.push s.window.requestBody)).respond .ok [byteOf s.stack.top, 0]) := by
  change execOpenStage s = _
  rw [execOpenStage, takeRequest_of_offers h, withBooted_of (by exact hb)]
  exact (if_neg (by simp [ho])).trans (if_pos ht)

/-- With the stack full and the FOLD response the stage is folded into entry 7 (R116). -/
theorem exec_openStage_folds (h : s.offers .openStage = true) (hb : s.boot.outcome = .booted b)
    (ho : s.stack.openTop = none) (ht : s.stack.top = 8) (hf : b.params.overflow = .fold) :
    exec .openStage s = .next
      (((s.setStack (s.stack.fold s.window.requestBody)).raiseFlag .stackFolded).respond .ok [7, 1]) := by
  change execOpenStage s = _
  rw [execOpenStage, takeRequest_of_offers h, withBooted_of (by exact hb)]
  simp only [State.setWindow_stack, ho, ht, hf, Option.isSome_none, Bool.false_eq_true, lt_self_iff_false,
    if_false]
  rfl

/-- With the stack full and the REFUSE response the stage is refused (R117). -/
theorem exec_openStage_when_full (h : s.offers .openStage = true) (hb : s.boot.outcome = .booted b)
    (ho : s.stack.openTop = none) (ht : s.stack.top = 8) (hr : b.params.overflow = .refuse) :
    exec .openStage s = refuseStack .full Detail.stackFull .stackFolded
      (s.setWindow { s.window with dispatched := none }) := by
  change execOpenStage s = _
  rw [execOpenStage, takeRequest_of_offers h, withBooted_of (by exact hb)]
  simp [ho, ht, hr]

end

/-- Settles O35: by whether the top entry is OPEN, whether there is room, and the overflow response. -/
theorem openStageRequest : Obligations.OpenStageRequest := by
  intro s b h hb label
  refine ⟨fun ho hq => ?_, fun ho ht => ?_, fun ho ht hf => ?_, fun ho ht hr hq => ?_⟩
  · rw [exec_openStage_over_open h hb ho]
    exact refuseStack_taken hq _ _ _
  · refine ⟨_, exec_openStage_with_room h hb ho ht, ?_, rfl, rfl, rfl⟩
    exact ((State.onlyChanges.refl s _).setStack _ (by simp)).setWindow _ (by simp)
  · refine ⟨_, exec_openStage_folds h hb ho ht hf, ?_, rfl, ht, rfl, rfl⟩
    exact (((State.onlyChanges.refl s _).setStack _ (by simp)).setFlags _ (by simp)).setWindow _ (by simp)
  · rw [exec_openStage_when_full h hb ho ht hr]
    exact refuseStack_taken hq _ _ _

/-! ## EXTEND (R114, R118) -/

/-- With an OPEN top entry the hash begins (R118). -/
theorem exec_extend_begins {s : State} (h : s.offers .extend = true)
    (ho : s.stack.openTop.isSome = true) :
    exec .extend s = .next
      ((s.setWindow { s.window with dispatched := none }).setJob (.extendHash s.window.requestBody)) := by
  change execExtend s = _
  rw [execExtend, takeRequest_of_offers h]
  exact if_pos ho

/-- Without one the request is refused (R118). -/
theorem exec_extend_refused {s : State} (h : s.offers .extend = true) (ho : s.stack.openTop = none) :
    exec .extend s = refuseStack .refusedState Detail.noOpenStage .stageOrder
      (s.setWindow { s.window with dispatched := none }) := by
  change execExtend s = _
  rw [execExtend, takeRequest_of_offers h]
  exact if_neg (by simp [ho])

/-- The hash's end extends the OPEN top entry (R114). -/
theorem exec_extendHashComplete {s : State} {i : Nat} {e : MeasEntry} {input : Bytes}
    (ha : s.alive = true) (hj : s.job = .extendHash input) (ho : s.stack.openTop = some (i, e)) :
    exec .extendHashComplete s = .next
      (((s.setJob .idle).setStack (s.stack.write i (e.extended input))).respond .ok
        ([byteOf i] ++ le 2 (e.extended input).count.toNat ++ (e.extended input).value)) := by
  change execExtendHashComplete s = _
  simp only [execExtendHashComplete, ha, hj, ho, if_true]

/-- Settles O36: the request begins the hash or is refused, and the hash's end extends the top entry. -/
theorem extendRequest : Obligations.ExtendRequest := by
  refine ⟨fun s i e h ho => ?_, fun s h ho hq => ?_, fun s i e input ha hj ho => ?_⟩
  · refine ⟨_, exec_extend_begins h (by simp [ho]), ?_, rfl, rfl⟩
    exact ((State.onlyChanges.refl s _).setWindow _ (by simp)).setJob _ (by simp)
  · rw [exec_extend_refused h ho]
    exact refuseStack_taken hq _ _ _
  · refine ⟨_, exec_extendHashComplete ha hj ho, ?_, rfl, rfl, rfl, rfl⟩
    exact (((State.onlyChanges.refl s _).setJob _ (by simp)).setStack _ (by simp)).setWindow _ (by simp)

end Sys2Proof.Machine
end

section
/-! PROOFS. Chapter 9: LOCK and FREEZE as requests and as actions, and the conditions of a release policy. -/

namespace Sys2Proof.Machine

/-! ## LOCK and FREEZE (R100, R168) -/

/-- Locking touches the store state alone, and that only where it is UNLOCKED. -/
theorem CredStore.locked_eq (c : CredStore) :
    c.locked = { c with state := if c.state = .unlocked then .locked else c.state } := by
  unfold CredStore.locked
  split <;> rfl

theorem State.onlyChanges.setCred {s t : State} {changed : List Field} (h : s.onlyChanges t changed)
    (c : CredStore) (hc : .cred ∈ changed) : s.onlyChanges (t.setCred c) changed := by
  intro f hf
  cases f with
  | cred => exact absurd hc hf
  | _ => exact h _ hf

/-- An answered change of the Credential Store changes the store's state and the window alone. -/
theorem State.setCred_respond_onlyChanges (s : State) (c : CredStore) (status : Status) (body : Bytes) :
    s.onlyChanges ((s.setCred c).respond status body) [.cred, .window] :=
  ((State.onlyChanges.refl s _).setCred c (by simp)).setWindow _ (by simp)

/-- A FROZEN store's attributes are its FROZEN bit, with that of WIPE_PENDING while a marker stands. -/
theorem State.storeAttributes_of_frozen {s : State} (h : s.cred.frozen = true) :
    s.storeAttributes = if s.store.marker.isSome then 3 else 1 := by
  cases hm : s.store.marker.isSome <;> simp [State.storeAttributes, State.wipePending, byteOfBool, h, hm]

theorem exec_lock {s : State} (h : s.offers .lock = true) :
    exec .lock s = .next ((s.setCred s.cred.locked).respond .ok [s.cred.locked.state.code]) := by
  change execLock s = _
  rw [execLock, takeRequest_of_offers h]
  rfl

theorem exec_freeze {s : State} (h : s.offers .freeze = true) :
    exec .freeze s = .next ((s.setCred s.cred.freeze).respond .ok
      [s.cred.state.code, (s.setCred s.cred.freeze).storeAttributes]) := by
  change execFreeze s = _
  rw [execFreeze, takeRequest_of_offers h]
  rfl

/-- Settles O47: the two requests and the two actions, each by the one change of the store that it makes. -/
theorem lockAndFreeze : Obligations.LockAndFreeze := by
  refine ⟨fun s h => ?lock, fun s h => ?freeze, fun s => ?lockStore, fun s => ?freezeStore⟩
  case lock =>
    exact ⟨_, exec_lock h, s.setCred_respond_onlyChanges _ _ _, s.cred.locked_eq, rfl⟩
  case freeze =>
    have hattr := State.storeAttributes_of_frozen (s := s.setCred s.cred.freeze) rfl
    refine ⟨_, exec_freeze h, s.setCred_respond_onlyChanges _ _ _, rfl, ?_⟩
    rw [hattr]
    rfl
  case lockStore =>
    exact ⟨_, rfl, (State.onlyChanges.refl s _).setCred _ (by simp), s.cred.locked_eq⟩
  case freezeStore =>
    exact ⟨_, rfl, (State.onlyChanges.refl s _).setCred _ (by simp), rfl⟩

/-! ## The stack's answer and the forbidden flags (R122, R123) -/

theorem Stack.answers_iff (k : Stack) (label value : Bytes) :
    k.answers label value = true ↔
      ∃ e ∈ k.entries.toList, e.tag = .closed ∧ e.label = label ∧ e.value = value := by
  simp [Stack.answers, Vector.any_eq_true, Vector.mem_iff_getElem, and_assoc]

/-- A forbidden set meets the flags in one of the part's ten, whatever its bits beyond those. -/
theorem forbidden_and_flags_ne_zero_iff (forbidden : BitVec 16) (flags : BitVec 10) :
    forbidden &&& flags.setWidth 16 ≠ 0 ↔
      ∃ k, k < 10 ∧ forbidden.getLsbD k = true ∧ flags.getLsbD k = true := by
  constructor
  · intro hne
    have hbit := BitVec.getLsbD_true_ctz_of_ne_zero hne
    simp only [BitVec.getLsbD_and, BitVec.getLsbD_setWidth, Bool.and_eq_true] at hbit
    obtain ⟨hforbidden, -, hset⟩ := hbit
    exact ⟨_, BitVec.lt_of_getLsbD hset, hforbidden, hset⟩
  · rintro ⟨k, hk, hforbidden, hset⟩ hzero
    have hbit : (forbidden &&& flags.setWidth 16).getLsbD k = true := by
      rw [BitVec.getLsbD_and, BitVec.getLsbD_setWidth, hforbidden, hset]
      simp only [Bool.true_and, Bool.and_true, decide_eq_true_eq]
      omega
    simp [hzero] at hbit

/-! ## Release policies (R175) -/

theorem getLsbD_reasonIf (failed : Bool) (bit : Byte) (i : Nat) :
    (reasonIf failed bit).getLsbD i = (failed && bit.getLsbD i) := by
  cases failed <;> simp [reasonIf]

/-- The five reasons are the bits 0 to 4, one each. -/
theorem getLsbD_reasons (owner epoch verdict flags stage : Bool) (i : Nat) :
    (reasonIf owner Reason.owner ||| reasonIf epoch Reason.epoch ||| reasonIf verdict Reason.verdict
      ||| reasonIf flags Reason.flags ||| reasonIf stage Reason.stage).getLsbD i
      = [owner, epoch, verdict, flags, stage].getD i false := by
  simp only [BitVec.getLsbD_or, getLsbD_reasonIf, Reason.owner, Reason.epoch, Reason.verdict,
    Reason.flags, Reason.stage]
  match i with
  | 0 | 1 | 2 | 3 | 4 | 5 | 6 | 7 => simp
  | i + 8 => simp [BitVec.getLsbD_of_ge]

section
variable (s : State) (b : Booted) (p : Policy)

theorem policyFailures_owner_iff : (s.policyFailures b p).getLsbD 0 = true ↔
    p.ownerRequired ≠ 0 ∧ s.cred.state ≠ .unlocked := by
  rw [State.policyFailures, getLsbD_reasons]
  simp

theorem policyFailures_epoch_iff : (s.policyFailures b p).getLsbD 1 = true ↔
    s.epoch < p.minEpoch.toNat := by
  rw [State.policyFailures, getLsbD_reasons]
  simp

theorem policyFailures_verdict_iff : (s.policyFailures b p).getLsbD 2 = true ↔
    p.verdicts.getLsbD b.verdict.bit = false := by
  rw [State.policyFailures, getLsbD_reasons]
  simp

theorem policyFailures_flags_iff : (s.policyFailures b p).getLsbD 3 = true ↔
    ∃ k, k < 10 ∧ p.forbidden.getLsbD k = true ∧ s.flags.getLsbD k = true := by
  rw [State.policyFailures, getLsbD_reasons, ← forbidden_and_flags_ne_zero_iff]
  simp

theorem policyFailures_stage_iff : (s.policyFailures b p).getLsbD 4 = true ↔
    p.presence ≠ 0 ∧ ∀ e ∈ s.stack.entries.toList,
      ¬(e.tag = .closed ∧ e.label = p.label ∧ e.value = p.expected) := by
  rw [State.policyFailures, getLsbD_reasons]
  have hanswer : s.stack.answers p.label p.expected = false ↔ ∀ e ∈ s.stack.entries.toList,
      ¬(e.tag = .closed ∧ e.label = p.label ∧ e.value = p.expected) := by
    rw [← Bool.not_eq_true, Stack.answers_iff]
    simp only [not_exists, not_and]
  rw [← hanswer]
  simp

/-- No reason has a bit beyond the fifth. -/
theorem policyFailures_no_reason {i : Nat} (hi : 5 ≤ i) : (s.policyFailures b p).getLsbD i = false := by
  rw [State.policyFailures, getLsbD_reasons]
  simp [hi]

/-- There is no reason exactly when none of the five bits is set. -/
theorem policyFailures_eq_zero_iff : s.policyFailures b p = 0 ↔
    ¬(s.policyFailures b p).getLsbD 0 = true ∧ ¬(s.policyFailures b p).getLsbD 1 = true ∧
    ¬(s.policyFailures b p).getLsbD 2 = true ∧ ¬(s.policyFailures b p).getLsbD 3 = true ∧
    ¬(s.policyFailures b p).getLsbD 4 = true := by
  constructor
  · intro hzero
    simp [hzero]
  · rintro ⟨h0, h1, h2, h3, h4⟩
    refine BitVec.eq_of_getLsbD_eq fun i _ => (?_ : _ = false).trans BitVec.getLsbD_zero.symm
    match i with
    | 0 | 1 | 2 | 3 | 4 => exact eq_false_of_ne_true ‹_›
    | i + 5 => exact policyFailures_no_reason s b p (by omega)

end

/-- Settles O52: each condition's bit by its own lemma, and the policy's holding by the negation of all five. -/
theorem releasePolicy : Obligations.ReleasePolicy := by
  intro s b p failures
  have howner := policyFailures_owner_iff s b p
  have hepoch := policyFailures_epoch_iff s b p
  have hverdict := policyFailures_verdict_iff s b p
  have hflags := policyFailures_flags_iff s b p
  have hstage := policyFailures_stage_iff s b p
  refine ⟨?holds, howner, hepoch, hverdict, hflags, hstage, ?unused⟩
  case unused =>
    exact ⟨policyFailures_no_reason s b p (by omega), policyFailures_no_reason s b p (by omega),
      policyFailures_no_reason s b p (by omega)⟩
  case holds =>
    refine (policyFailures_eq_zero_iff s b p).trans
      (and_congr ?_ (and_congr ?_ (and_congr ?_ (and_congr ?_ ?_))))
    · rw [howner, not_and_or, not_not, not_not]
    · rw [hepoch, not_lt]
    · rw [hverdict, Bool.not_eq_false]
      rfl
    · rw [hflags]
      simp only [not_exists, not_and]
    · rw [hstage, not_and_or, not_not]
      simp only [not_forall, not_not, exists_prop]

end Sys2Proof.Machine
end

section
/-! PROOFS. Chapter 10: the incident log's answer to READ_LOG. -/

namespace Sys2Proof.Machine

/-! ## The ends of the ring (R189, R190) -/

/-- The oldest number is that of the ring's first entry, 0 when the ring is empty. -/
theorem IncidentLog.oldest_toNat (l : IncidentLog) :
    l.oldest.toNat = (l.ring.head?.map fun e => e.seq.toNat).getD 0 := by
  unfold IncidentLog.oldest
  cases l.ring.head? <;> rfl

/-- The newest number is that of the ring's last entry, 0 when the ring is empty. -/
theorem IncidentLog.newest_toNat (l : IncidentLog) :
    l.newest.toNat = (l.ring.getLast?.map fun e => e.seq.toNat).getD 0 := by
  unfold IncidentLog.newest
  cases l.ring.getLast? <;> rfl

/-! ## READ_LOG (R189) -/

/-- What READ_LOG answers: the log's entries where the maximum is within 1 to 32, BAD_ARGUMENT elsewhere. -/
theorem exec_readLog {s : State} (h : s.offers .readLog = true) :
    exec .readLog s = .next
      (if 1 ≤ (byteAt s.window.requestBody 4).toNat ∧ (byteAt s.window.requestBody 4).toNat ≤ 32 then
        s.respond .ok (s.log.readBody (ofLe (slice s.window.requestBody 0 4))
          (byteAt s.window.requestBody 4).toNat)
      else s.respond .badArgument []) := by
  change execReadLog s = _
  rw [execReadLog, takeRequest_of_offers h]
  simp only [State.respond_taken, State.setWindow_log]
  split <;> rfl

/-- Settles O54: by whether the maximum is within its bounds; the answer's body names the ring's two ends and
the entries selected. -/
theorem readLogRequest : Obligations.ReadLogRequest := by
  intro s h start maximum
  have hstep := exec_readLog h
  by_cases hin : 1 ≤ maximum ∧ maximum ≤ 32
  · rw [if_pos hin] at hstep
    refine ⟨_, hstep, s.respond_onlyChanges _ _, fun hout => by omega, fun _ _ => ⟨_, rfl, ?_⟩⟩
    rw [← IncidentLog.oldest_toNat, ← IncidentLog.newest_toNat]
    rfl
  · rw [if_neg hin] at hstep
    exact ⟨_, hstep, s.respond_onlyChanges _ _, fun _ => rfl, fun hlo hhi => absurd ⟨hlo, hhi⟩ hin⟩

end Sys2Proof.Machine
end

section
/-! PROOFS. What a step keeps: of each field, what the invariants read of it; kept by actions and incidents in passing,
by each update of one field, and given up by a start alone. -/

namespace Sys2Proof.Machine

/-! ## Frames, field by field -/

/-- A frame is one equation for each field that is not named. -/
theorem State.onlyChanges_iff (s t : State) (changed : List Field) :
    s.onlyChanges t changed ↔
      (.pins ∉ changed → t.pins = s.pins) ∧ (.host ∉ changed → t.host = s.host) ∧
      (.port ∉ changed → t.port = s.port) ∧ (.classes ∉ changed → t.classes = s.classes) ∧
      (.regions ∉ changed → t.regions = s.regions) ∧ (.window ∉ changed → t.window = s.window) ∧
      (.boot ∉ changed → t.boot = s.boot) ∧ (.schedule ∉ changed → t.schedule = s.schedule) ∧
      (.lines ∉ changed → t.lines = s.lines) ∧ (.stack ∉ changed → t.stack = s.stack) ∧
      (.flags ∉ changed → t.flags = s.flags) ∧ (.quote ∉ changed → t.quote = s.quote) ∧
      (.session ∉ changed → t.session = s.session) ∧ (.cred ∉ changed → t.cred = s.cred) ∧
      (.log ∉ changed → t.log = s.log) ∧ (.fuses ∉ changed → t.fuses = s.fuses) ∧
      (.store ∉ changed → t.store = s.store) ∧ (.scratch ∉ changed → t.scratch = s.scratch) ∧
      (.job ∉ changed → t.job = s.job) ∧ (.write ∉ changed → t.write = s.write) ∧
      (.pending ∉ changed → t.pending = s.pending) := by
  constructor
  · intro h
    exact ⟨h _, h _, h _, h _, h _, h _, h _, h _, h _, h _, h _, h _, h _, h _, h _, h _, h _, h _, h _,
      h _, h _⟩
  · rintro ⟨_, _, _, _, _, _, _, _, _, _, _, _, _, _, _, _, _, _, _, _, _⟩ f
    cases f <;> assumption

/-! ## What the invariants read of a block -/

/-- The same transaction goes on: its entry and decision stand, and its phase is neither begun nor ended. -/
structure HostRecord.GoesOn (h k : HostRecord) : Prop where
  entry : k.entry = h.entry
  decision : k.decision = h.decision
  idle : k.phase = .idle ↔ h.phase = .idle
  instruction : k.phase = .instruction ↔ h.phase = .instruction
  address : k.phase = .address → h.phase = .address

@[simp] theorem HostRecord.GoesOn.refl (h : HostRecord) : h.GoesOn h :=
  ⟨rfl, rfl, .rfl, .rfl, id⟩

theorem HostRecord.GoesOn.trans {h k l : HostRecord} (x : h.GoesOn k) (y : k.GoesOn l) : h.GoesOn l :=
  ⟨y.entry.trans x.entry, y.decision.trans x.decision, y.idle.trans x.idle,
    y.instruction.trans x.instruction, fun z => x.address (y.address z)⟩

/-- A record that differs in none of the three fields goes on with the transaction. -/
theorem HostRecord.GoesOn.of_eq {h k : HostRecord} (he : k.entry = h.entry := by rfl)
    (hd : k.decision = h.decision := by rfl) (hp : k.phase = h.phase := by rfl) : h.GoesOn k :=
  ⟨he, hd, by rw [hp], by rw [hp], by rw [hp]; exact id⟩

/-- What is open at the Flash Port but for the host byte last sent on. -/
def OpenTransaction.unsent : OpenTransaction → OpenTransaction
  | .host byte lanes physical _ => .host byte lanes physical Option.none
  | other => other

/-- Nothing is newly open for the host: what is forwarded now was open before. -/
def OpenTransaction.OpensNothing (x y : OpenTransaction) : Prop :=
  y.forwarded = true → y.unsent = x.unsent

@[simp] theorem OpenTransaction.OpensNothing.refl (x : OpenTransaction) : x.OpensNothing x :=
  fun _ => rfl

/-- A transaction is forwarded exactly when it is one after its last byte is forgotten. -/
@[simp] theorem OpenTransaction.forwarded_unsent (x : OpenTransaction) :
    x.unsent.forwarded = x.forwarded := by
  cases x <;> rfl

theorem OpenTransaction.OpensNothing.trans {x y z : OpenTransaction} (h : x.OpensNothing y)
    (k : y.OpensNothing z) : x.OpensNothing z := by
  intro hz
  have hyz := k hz
  have hy : y.forwarded = true := by rw [← y.forwarded_unsent, ← hyz, z.forwarded_unsent, hz]
  exact hyz.trans (h hy)

theorem OpenTransaction.OpensNothing.of_not_forwarded {x y : OpenTransaction}
    (h : y.forwarded = false) : x.OpensNothing y :=
  fun k => absurd (h.symm.trans k) (by simp)

/-! Nothing of the host's is open where nothing is, or one of the engine's. -/

@[simp] theorem OpenTransaction.opensNothing_none (x : OpenTransaction) : x.OpensNothing .none :=
  .of_not_forwarded rfl

@[simp] theorem OpenTransaction.opensNothing_engineStatus (x : OpenTransaction) e :
    x.OpensNothing (.engineStatus e) :=
  .of_not_forwarded rfl

@[simp] theorem OpenTransaction.opensNothing_engineRead (x : OpenTransaction) b a n :
    x.OpensNothing (.engineRead b a n) :=
  .of_not_forwarded rfl

/-- What is still open for the host was open for it before. -/
theorem OpenTransaction.OpensNothing.forwarded {x y : OpenTransaction} (h : x.OpensNothing y)
    (hy : y.forwarded = true) : x.forwarded = true := by
  rw [← x.forwarded_unsent, ← h hy, y.forwarded_unsent, hy]

/-- The transaction still open for the host goes to the physical address it was opened with. -/
theorem OpenTransaction.OpensNothing.host {x : OpenTransaction} {byte : Byte} {lanes : Nat}
    {p : Option Nat} {last : Option Byte} (h : x.OpensNothing (.host byte lanes p last)) :
    ∃ last', x = .host byte lanes p last' := by
  have hx := h rfl
  cases x <;> simp_all [OpenTransaction.unsent]

/-- The table's records stand, each at least as tight as before (R45). -/
structure RegionTable.Tightens (x y : RegionTable) : Prop where
  default : y.defaultRule = x.defaultRule
  length : y.records.length = x.records.length
  records : ∀ (i : Nat) (r' : RegionRecord), y.records[i]? = some r' →
    ∃ r : RegionRecord, x.records[i]? = some r ∧
      r.tight.rank ≤ r'.tight.rank ∧ r' = { r with tight := r'.tight }

@[simp] theorem RegionTable.Tightens.refl (x : RegionTable) : x.Tightens x :=
  ⟨rfl, rfl, fun _ r h => ⟨r, h, le_refl _, rfl⟩⟩

theorem RegionTable.Tightens.trans {x y z : RegionTable} (h : x.Tightens y) (k : y.Tightens z) :
    x.Tightens z where
  default := k.default.trans h.default
  length := k.length.trans h.length
  records := fun i r' hr' => by
    obtain ⟨q, hq, hqr, hr'q⟩ := k.records i r' hr'
    obtain ⟨r, hr, hrq, hqr'⟩ := h.records i q hq
    exact ⟨r, hr, hrq.trans hqr, by rw [hr'q, hqr']⟩

/-- The attempts used stand, and the store state too unless LOCK_STORE has locked it. -/
structure CredStore.Stands (c d : CredStore) : Prop where
  attempts : d.attempts = c.attempts
  state : d.state = c.state ∨ (c.state = .unlocked ∧ d.state = .locked)

@[simp] theorem CredStore.Stands.refl (c : CredStore) : c.Stands c :=
  ⟨rfl, .inl rfl⟩

theorem CredStore.Stands.trans {c d e : CredStore} (h : c.Stands d) (k : d.Stands e) : c.Stands e where
  attempts := k.attempts.trans h.attempts
  state := by
    rcases k.state with k | ⟨k, k'⟩ <;> rcases h.state with h | ⟨h, h'⟩ <;> simp_all

/-- A store that stands is LOCKED_OUT exactly when it was. -/
theorem CredStore.Stands.lockedOut_iff {c d : CredStore} (h : c.Stands d) :
    d.state = .lockedOut ↔ c.state = .lockedOut := by
  rcases h.state with h | ⟨h, h'⟩ <;> simp [*]

/-! ## Fuses (R152, R155) -/

@[simp] theorem Fuses.grownFrom_refl (f : Fuses) : f.grownFrom f :=
  ⟨⟨0, by simp⟩, id, id, rfl⟩

theorem Fuses.grownFrom_trans {f g h : Fuses} (hgf : g.grownFrom f) (hhg : h.grownFrom g) :
    h.grownFrom f := by
  obtain ⟨⟨x, hx⟩, h0, h1, hf⟩ := hgf
  obtain ⟨⟨y, hy⟩, k0, k1, hg⟩ := hhg
  refine ⟨⟨x ||| y, by rw [hy, hx, BitVec.or_assoc]⟩, fun z => k0 (h0 z), fun z => k1 (h1 z), ?_⟩
  rw [hg, hf]

theorem Fuses.grownFrom_blow (f : Fuses) (bits : BitVec 64) :
    Fuses.grownFrom { f with epochBits := f.epochBits ||| bits } f :=
  ⟨⟨bits, rfl⟩, id, id, rfl⟩

theorem Fuses.grownFrom_revokeOther (f : Fuses) (p : Params) : (f.revokeOther p).grownFrom f := by
  unfold Fuses.revokeOther
  split
  · exact ⟨⟨0, by simp⟩, id, fun _ => rfl, rfl⟩
  · exact ⟨⟨0, by simp⟩, fun _ => rfl, id, rfl⟩

/-! ## The ring's numbers (R183, R184) -/

/-- The oldest entry dropped of a full ring, the numbers go on from the next (R183). -/
theorem IncidentLog.numbered_append {l : IncidentLog} (h : l.numbered) (i : Incident)
    (bootCount : BitVec 32) : (l.append i bootCount).numbered := by
  unfold IncidentLog.append
  split
  · exact h
  · rename_i hseq
    obtain ⟨hcap, hle, hmap⟩ := h
    have hnext : (l.seq + 1).toNat = l.seq.toNat + 1 := by
      have : l.seq.toNat ≠ 2 ^ 32 - 1 := fun k => hseq (BitVec.eq_of_toNat_eq (by simpa using k))
      have := l.seq.isLt
      rw [BitVec.toNat_add]
      exact Nat.mod_eq_of_lt (by simp; omega)
    simp only [IncidentLog.numbered, ringAppend, Config.ringCapacity, hnext]
    by_cases hroom : l.ring.length < 32
    · simp only [hroom, if_true]
      have hfirst : l.seq.toNat + 1 + 1 - (l.ring.length + 1) = l.seq.toNat + 1 - l.ring.length := by omega
      refine ⟨by simp; omega, by simp; omega, ?_⟩
      simp only [List.map_append, hmap, List.map_cons, List.map_nil, hnext, List.length_append,
        List.length_singleton, hfirst, List.range'_concat]
      rw [show l.seq.toNat + 1 - l.ring.length + 1 * l.ring.length = l.seq.toNat + 1 by omega]
    · simp only [hroom, if_false]
      have hlen : l.ring.length = 32 := by omega
      have hrange := List.range'_concat (step := 1) (s := l.seq.toNat + 1 - 32 + 1) (n := 31)
      refine ⟨by simp; omega, by simp; omega, ?_⟩
      simp only [List.map_append, List.map_drop, hmap, List.map_cons, List.map_nil, hnext,
        List.length_append, List.length_drop, List.length_singleton, hlen, List.drop_range']
      rw [show l.seq.toNat + 1 + 1 - (32 - 1 + 1) = l.seq.toNat + 1 - 32 + 1 by omega]
      refine Eq.trans ?_ hrange.symm
      rw [show l.seq.toNat + 1 - 32 + 1 + 1 * 31 = l.seq.toNat + 1 by omega]

theorem IncidentLog.numbered_count {l : IncidentLog} (h : l.numbered) (k : IncidentKind) :
    (l.count k).numbered := h

end Sys2Proof.Machine
end

section
/-! PROOFS. What is kept of a state from one moment of a step to a later one, and what a start makes of it. -/

namespace Sys2Proof.Machine

/-! ## What is kept of a field -/

/-- What is kept of a field: all that an invariant reads of it. -/
def Field.kept (s t : State) : Field → Prop
  | .pins => t.pins = s.pins
  | .host => s.host.GoesOn t.host
  | .port => s.port.openTx.OpensNothing t.port.openTx
  | .regions => s.regions.Tightens t.regions
  | .boot => t.boot.phase = s.boot.phase ∧ t.boot.outcome = s.boot.outcome
  | .lines => t.lines.l0Asserted = s.lines.l0Asserted
  | .stack => t.stack = s.stack
  | .cred => s.cred.Stands t.cred
  | .log => s.log.numbered → t.log.numbered
  | .fuses => t.fuses.grownFrom s.fuses
  | .store => t.store.slots = s.store.slots
  | .job => t.job = s.job
  | .write => t.write = s.write
  | .pending => t.pending = s.pending
  | .classes | .window | .schedule | .flags | .quote | .session | .scratch => True

theorem Field.kept_of_agrees {s t : State} {f : Field} (h : f.agrees s t) : f.kept s t := by
  cases f with
  | pins | stack | job | write | pending => exact h
  | host => exact .of_eq (congrArg _ h) (congrArg _ h) (congrArg _ h)
  | port => exact fun _ => congrArg (fun p => p.openTx.unsent) h
  | regions => simp [Field.kept, show t.regions = s.regions from h]
  | boot => exact ⟨congrArg _ h, congrArg _ h⟩
  | lines => exact congrArg _ h
  | cred => simp [Field.kept, show t.cred = s.cred from h]
  | log => exact fun k => by rwa [show t.log = s.log from h]
  | fuses => simp [Field.kept, show t.fuses = s.fuses from h]
  | store => exact congrArg _ h
  | classes | window | schedule | flags | quote | session | scratch => trivial

theorem Field.kept_trans {s t u : State} {f : Field} (h : f.kept s t) (k : f.kept t u) : f.kept s u := by
  cases f with
  | pins | stack | job | write | pending | lines | store => exact k.trans h
  | host => exact HostRecord.GoesOn.trans h k
  | port => exact OpenTransaction.OpensNothing.trans h k
  | regions => exact RegionTable.Tightens.trans h k
  | boot => exact ⟨k.1.trans h.1, k.2.trans h.2⟩
  | cred => exact CredStore.Stands.trans h k
  | log => exact fun x => k (h x)
  | fuses => exact Fuses.grownFrom_trans h k
  | classes | window | schedule | flags | quote | session | scratch => trivial

/-- Of every field but the named ones, all that an invariant reads is kept. -/
def State.keeps (s t : State) (altered : List Field) : Prop :=
  ∀ f : Field, f ∉ altered → f.kept s t

section
variable {s t u : State} {altered : List Field}

theorem State.keeps.refl (s : State) (altered : List Field) : s.keeps s altered :=
  fun _ _ => Field.kept_of_agrees (State.onlyChanges.refl s altered _ ‹_›)

theorem State.keeps.trans (h : s.keeps t altered) (k : t.keeps u altered) : s.keeps u altered :=
  fun f hf => Field.kept_trans (h f hf) (k f hf)

theorem State.keeps.mono {more : List Field} (h : s.keeps t altered) (hm : altered ⊆ more) :
    s.keeps t more :=
  fun f hf => h f fun k => hf (hm k)

/-- The fields that an invariant reads, one clause each. -/
theorem State.keeps_iff (s t : State) (altered : List Field) :
    s.keeps t altered ↔
      (.pins ∉ altered → t.pins = s.pins) ∧ (.host ∉ altered → s.host.GoesOn t.host) ∧
      (.port ∉ altered → s.port.openTx.OpensNothing t.port.openTx) ∧
      (.regions ∉ altered → s.regions.Tightens t.regions) ∧
      (.boot ∉ altered → t.boot.phase = s.boot.phase ∧ t.boot.outcome = s.boot.outcome) ∧
      (.lines ∉ altered → t.lines.l0Asserted = s.lines.l0Asserted) ∧
      (.stack ∉ altered → t.stack = s.stack) ∧ (.cred ∉ altered → s.cred.Stands t.cred) ∧
      (.log ∉ altered → s.log.numbered → t.log.numbered) ∧
      (.fuses ∉ altered → t.fuses.grownFrom s.fuses) ∧
      (.store ∉ altered → t.store.slots = s.store.slots) ∧ (.job ∉ altered → t.job = s.job) ∧
      (.write ∉ altered → t.write = s.write) ∧ (.pending ∉ altered → t.pending = s.pending) := by
  constructor
  · intro h
    exact ⟨h _, h _, h _, h _, h _, h _, h _, h _, h _, h _, h _, h _, h _, h _⟩
  · rintro ⟨hpins, hhost, hport, hregions, hboot, hlines, hstack, hcred, hlog, hfuses, hstore, hjob, hwrite,
      hpending⟩ f hf
    cases f with
    | pins => exact hpins hf
    | host => exact hhost hf
    | port => exact hport hf
    | regions => exact hregions hf
    | boot => exact hboot hf
    | lines => exact hlines hf
    | stack => exact hstack hf
    | cred => exact hcred hf
    | log => exact hlog hf
    | fuses => exact hfuses hf
    | store => exact hstore hf
    | job => exact hjob hf
    | write => exact hwrite hf
    | pending => exact hpending hf
    | classes | window | schedule | flags | quote | session | scratch => trivial

end

/-! ## Passing actions and incidents -/

/-- Actions keep the number of records. -/
theorem runAction_records_length {s t : State} {a : Action} (h : runAction s a = .on t) :
    t.regions.records.length = s.regions.records.length := by
  cases a with
  | tighten i level =>
    cases h
    unfold State.tighten
    split
    · split
      · simp [State.setTightening]
      · rfl
    · rfl
  | lineSet line asserted =>
    cases h
    unfold State.lineSet
    split <;> rfl
  | reboot => cases h
  | freezeStore | lockStore | deadlineStart | deadlineStop => cases h; rfl

/-- What actions change is kept in every field, as far as the table keeps its length. -/
theorem Acted.keeps {s t : State} (h : Acted s t)
    (hl : t.regions.records.length = s.regions.records.length) : s.keeps t [] := by
  have hacted : State.keeps { s with lines := t.lines, cred := t.cred, regions := t.regions } t [] := by
    rw [State.keeps_iff, h.frame]
    simp
  refine State.keeps.trans (State.keeps_iff _ _ _ |>.mpr ?_) hacted
  refine ⟨?_, ?_, ?_, fun _ => ⟨h.table, hl, h.records⟩, ?_, fun _ => h.l0, ?_,
    fun _ => ⟨h.attempts, h.store⟩, ?_⟩ <;> simp

/-! ## Flows and starts -/

/-- A flow of `s` goes on with all but the named fields kept, or an action has begun a start from there. -/
def State.flowsTo (s : State) (f : Flow) (altered : List Field) : Prop :=
  (∃ t, f = .on t ∧ s.keeps t altered) ∨
    ∃ u, f = .restarted (u.beginStart .warmSchedule) ∧ s.keeps u altered

/-- `t` is what a start makes of a state that `s` keeps all but the named fields of; a supply fall leaves the same but
for the boot-count write. -/
def State.restarts (s t : State) (altered : List Field) : Prop :=
  ∃ (u : State) (cause : Cause), (t = u.beginStart cause ∨ t = u.volatileAtStart cause) ∧ s.keeps u altered

/-- What a step makes of a state: all but the named fields kept, or a start from there. -/
def State.stepsTo (s t : State) (altered : List Field) : Prop :=
  s.keeps t altered ∨ s.restarts t altered

section
variable {s t u : State} {f : Flow} {altered : List Field}

theorem State.flowsTo.on (h : s.keeps t altered) : s.flowsTo (.on t) altered :=
  .inl ⟨t, rfl, h⟩

theorem State.flowsTo.of_keeps (h : s.keeps t altered) (k : t.flowsTo f altered) :
    s.flowsTo f altered := by
  rcases k with ⟨v, rfl, k⟩ | ⟨v, rfl, k⟩
  · exact .inl ⟨v, rfl, h.trans k⟩
  · exact .inr ⟨v, rfl, h.trans k⟩

theorem State.flowsTo.mono {more : List Field} (h : s.flowsTo f altered) (hm : altered ⊆ more) :
    s.flowsTo f more := by
  rcases h with ⟨v, rfl, h⟩ | ⟨v, rfl, h⟩
  · exact .inl ⟨v, rfl, h.mono hm⟩
  · exact .inr ⟨v, rfl, h.mono hm⟩

theorem State.flowsTo.andThen {next : State → Flow} (h : s.flowsTo f altered)
    (k : ∀ t, s.keeps t altered → s.flowsTo (next t) altered) : s.flowsTo (f.andThen next) altered := by
  rcases h with ⟨t, rfl, h⟩ | ⟨u, rfl, h⟩
  · exact k t h
  · exact .inr ⟨u, rfl, h⟩

/-- A flow that goes on with a last change of its own. -/
theorem State.flowsTo.andThen_on {last : State → State} (h : s.flowsTo f altered)
    (k : ∀ t : State, t.keeps (last t) altered) : s.flowsTo (f.andThen fun t => .on (last t)) altered :=
  h.andThen fun t ht => .on (ht.trans (k t))

theorem State.flowsTo.stepsTo (h : s.flowsTo f altered) : s.stepsTo f.state altered := by
  rcases h with ⟨t, rfl, h⟩ | ⟨u, rfl, h⟩
  · exact .inl h
  · exact .inr ⟨u, _, .inl rfl, h⟩

theorem State.flowsTo.of_result (h : s.flowsTo f altered) (ht : f.result = .next t) :
    s.stepsTo t altered := by
  cases ht
  exact h.stepsTo

theorem State.stepsTo.of_keeps (h : s.keeps t altered) (k : t.stepsTo u altered) : s.stepsTo u altered := by
  rcases k with k | ⟨v, cause, hu, k⟩
  · exact .inl (h.trans k)
  · exact .inr ⟨v, cause, hu, h.trans k⟩

theorem State.stepsTo.mono {more : List Field} (h : s.stepsTo t altered) (hm : altered ⊆ more) :
    s.stepsTo t more := by
  rcases h with h | ⟨v, cause, ht, h⟩
  · exact .inl (h.mono hm)
  · exact .inr ⟨v, cause, ht, h.mono hm⟩

theorem State.stepsTo.start (cause : Cause) (h : s.keeps u altered) :
    s.stepsTo (u.beginStart cause) altered :=
  .inr ⟨u, cause, .inl rfl, h⟩

/-- A state that has not moved. -/
theorem State.stepsTo.refl (s : State) (altered : List Field) : s.stepsTo s altered :=
  .inl (.refl s altered)

end

theorem runAction_flowsTo (s : State) (a : Action) : s.flowsTo (runAction s a) [] := by
  rcases runAction_spec s a with ⟨t, ht, h⟩ | h
  · exact .inl ⟨t, ht, h.keeps (runAction_records_length ht)⟩
  · exact .inr ⟨s, h, .refl s _⟩

theorem runActions_flowsTo (actions : List Action) : ∀ s : State, s.flowsTo (runActions s actions) [] := by
  induction actions with
  | nil => exact fun s => .on (.refl s _)
  | cons a rest ih =>
    exact fun s => (runAction_flowsTo s a).andThen fun t ht => .of_keeps ht (ih t)

theorem State.keeps_setSchedule (s : State) (c : Schedule) : s.keeps (s.setSchedule c) [] := by
  simp [State.keeps_iff]

theorem offerSequence_flowsTo (trigger : SeqTrigger) (s : State) :
    s.flowsTo (offerSequence trigger s) [] := by
  unfold offerSequence
  split
  · split
    · exact (runActions_flowsTo _ s).andThen_on fun t => t.keeps_setSchedule _
    · exact .on (.refl s _)
  · exact .on (.refl s _)

theorem fireFrom_flowsTo (trigger : WatchTrigger) (entries : List WatchEntry) :
    ∀ (index : Nat) (s : State), s.flowsTo (fireFrom trigger index entries s) [] := by
  induction entries with
  | nil => exact fun _ s => .on (.refl s _)
  | cons e rest ih =>
    intro index s
    unfold fireFrom
    split
    · exact (State.flowsTo.of_keeps (s.keeps_setSchedule _) (runActions_flowsTo _ _)).andThen
        fun t ht => .of_keeps ht (ih _ t)
    · exact ih _ s

theorem fireWatch_flowsTo (trigger : WatchTrigger) (s : State) : s.flowsTo (fireWatch trigger s) [] :=
  fireFrom_flowsTo trigger _ 0 s

/-- Recording an incident keeps the ring's numbers, and touches the log alone. -/
theorem State.keeps_recordIncident (s : State) (i : Incident) : s.keeps (s.recordIncident i) [] := by
  simp only [State.keeps_iff, State.recordIncident]
  simp
  exact fun h => IncidentLog.numbered_count (IncidentLog.numbered_append h i _) _

theorem logIncident_flowsTo (i : Incident) (s : State) : s.flowsTo (logIncident i s) [] := by
  unfold logIncident
  split
  · refine .of_keeps (s.keeps_recordIncident i) (.of_keeps ?_ (fireWatch_flowsTo _ _))
    simp [State.keeps_iff]
  · exact .on (s.keeps_recordIncident i)

end Sys2Proof.Machine
end

section
/-! PROOFS. What each command keeps: one lemma an operation, then one a command, gathered in `exec_stepsTo`. -/

namespace Sys2Proof.Machine

section
variable {s t : State} {altered : List Field}

/-! ## Requests -/

/-- A request's step keeps what its owner's work keeps. -/
theorem takeRequest_stepsTo {r : Request} {owner : Bytes → State → Result}
    (h : takeRequest r s owner = .next t)
    (k : ∀ (body : Bytes) (u : State), owner body u = .next t → u.stepsTo t altered) :
    s.stepsTo t altered := by
  rcases takeRequest_next h with ⟨-, rfl⟩ | ⟨-, h⟩
  · exact .refl _ _
  · refine .of_keeps ?_ (k _ _ h)
    simp [State.keeps_iff]

theorem State.keeps_respond (s : State) (status : Status) (body : Bytes) :
    s.keeps (s.respond status body) altered := by
  simp [State.keeps_iff]

/-- An answer keeps everything. -/
theorem respond_stepsTo {status : Status} {body : Bytes}
    (h : (Host.Outcome.next (s.respond status body) : Result) = .next t) : s.stepsTo t altered := by
  cases h
  exact .inl (s.keeps_respond _ _)

theorem unlessFrozen_stepsTo {go : Result} (h : unlessFrozen s go = .next t)
    (k : go = .next t → s.stepsTo t altered) : s.stepsTo t altered := by
  unfold unlessFrozen at h
  split at h
  · exact respond_stepsTo h
  · exact k h

theorem whereOwned_stepsTo {go : Result} (h : whereOwned s go = .next t)
    (k : go = .next t → s.stepsTo t altered) : s.stepsTo t altered := by
  unfold whereOwned at h
  split at h
  · exact k h
  · split at h
    · exact respond_stepsTo h
    · exact k h
  · exact respond_stepsTo h
  · exact respond_stepsTo h

/-- A refusal of the stack keeps everything but what its incident brings about. -/
theorem refuseStack_stepsTo {status : Status} {detail : Byte} {flag : Flag}
    (h : refuseStack status detail flag s = .next t) : s.stepsTo t [] := by
  refine State.flowsTo.of_result (State.flowsTo.andThen_on (.of_keeps ?_ (logIncident_flowsTo _ _))
    fun u => u.keeps_respond _ _) h
  simp [State.keeps_iff]

theorem denyCredential_stepsTo {index : Nat} {reasons : Byte}
    (h : denyCredential index reasons s = .next t) : s.stepsTo t [] :=
  State.flowsTo.of_result ((logIncident_flowsTo _ s).andThen_on fun u => u.keeps_respond _ _) h

theorem useCredential_stepsTo {kind : CredKind} {body : Bytes} {go : Nat → Credential → Result}
    (h : useCredential kind body s go = .next t)
    (k : ∀ index c, go index c = .next t → s.stepsTo t altered) : s.stepsTo t altered := by
  obtain ⟨b, -, h⟩ := withBooted_next h
  split at h
  · exact respond_stepsTo h
  · split at h
    · exact respond_stepsTo h
    · split at h
      · exact (denyCredential_stepsTo h).mono (by simp)
      · split at h
        · exact (denyCredential_stepsTo h).mono (by simp)
        · exact k _ _ h

/-! ## Requests that keep everything -/

theorem execSetLines_stepsTo (h : execSetLines s = .next t) : s.stepsTo t [] :=
  takeRequest_stepsTo h fun body u h => by
    cases h
    refine .inl ?_
    simp [State.keeps_iff, State.applyLevels]

/-- A level no lower than the present one tightens the table. -/
theorem State.keeps_setTightening {i : Nat} {level : Tightening}
    (h : ∀ r, s.regions.records[i]? = some r → r.tight.rank ≤ level.rank) :
    s.keeps (s.setTightening i level) [] :=
  (Acted.setTightening s i level h).keeps (by simp [State.setTightening])

theorem execTightenRegion_stepsTo (h : execTightenRegion s = .next t) : s.stepsTo t [] :=
  takeRequest_stepsTo h fun body u h => by
    dsimp only at h
    split at h
    · exact respond_stepsTo h
    · rename_i r level hr
      split at h
      · exact respond_stepsTo h
      · split at h
        · exact respond_stepsTo h
        · split at h
          · exact respond_stepsTo h
          · rename_i hlevel
            refine .of_keeps (State.keeps_setTightening fun q hq => ?_) (respond_stepsTo h)
            rw [hr] at hq
            cases hq
            exact not_lt.mp hlevel

theorem execReboot_stepsTo (h : execReboot s = .next t) : s.stepsTo t [] :=
  takeRequest_stepsTo h fun body u h => by
    cases h
    exact .start _ (.refl u _)

theorem execReadLog_stepsTo (h : execReadLog s = .next t) : s.stepsTo t [] :=
  takeRequest_stepsTo h fun body u h => by
    dsimp only at h
    split at h <;> exact respond_stepsTo h

theorem execReadMeasurements_stepsTo (h : execReadMeasurements s = .next t) : s.stepsTo t [] :=
  takeRequest_stepsTo h fun _ _ h => respond_stepsTo h

theorem execGetStatus_stepsTo (h : execGetStatus s = .next t) : s.stepsTo t [] :=
  takeRequest_stepsTo h fun _ _ h => by
    obtain ⟨b, -, h⟩ := withBooted_next h
    exact respond_stepsTo h

theorem execOpenUpdate_stepsTo (h : execOpenUpdate s = .next t) : s.stepsTo t [] :=
  takeRequest_stepsTo h fun _ u h => by
    obtain ⟨b, -, h⟩ := withBooted_next h
    split at h
    · exact respond_stepsTo h
    · refine .of_keeps ?_ (respond_stepsTo h)
      simp [State.keeps_iff]

theorem execLock_stepsTo (h : execLock s = .next t) : s.stepsTo t [] :=
  takeRequest_stepsTo h fun _ u h => by
    refine .of_keeps ?_ (respond_stepsTo h)
    exact (runAction_flowsTo u .lockStore).elim (fun ⟨v, hv, k⟩ => by cases hv; exact k)
      (fun ⟨v, hv, _⟩ => by cases hv)

theorem execFreeze_stepsTo (h : execFreeze s = .next t) : s.stepsTo t [] :=
  takeRequest_stepsTo h fun _ u h => by
    refine .of_keeps ?_ (respond_stepsTo h)
    refine (State.keeps_iff _ _ _).mpr ?_
    simp
    exact ⟨rfl, .inl rfl⟩

theorem execGetCredential_stepsTo (h : execGetCredential s = .next t) : s.stepsTo t [] :=
  takeRequest_stepsTo h fun _ _ h => useCredential_stepsTo h fun _ _ h => respond_stepsTo h

theorem execListCredentials_stepsTo (h : execListCredentials s = .next t) : s.stepsTo t [] :=
  takeRequest_stepsTo h fun _ _ h => respond_stepsTo h

/-! ## Requests of the stack -/

theorem execOpenStage_stepsTo (h : execOpenStage s = .next t) : s.stepsTo t [.stack] :=
  takeRequest_stepsTo h fun _ u h => by
    obtain ⟨b, -, h⟩ := withBooted_next h
    split at h
    · exact (refuseStack_stepsTo h).mono (by simp)
    · split at h
      · refine .of_keeps ?_ (respond_stepsTo h)
        simp [State.keeps_iff]
      · split at h
        · refine .of_keeps ?_ (respond_stepsTo h)
          simp [State.keeps_iff]
        · exact (refuseStack_stepsTo h).mono (by simp)

theorem execCloseStage_stepsTo (h : execCloseStage s = .next t) : s.stepsTo t [.stack] :=
  takeRequest_stepsTo h fun _ u h => by
    dsimp only at h
    split at h
    · rename_i i e _
      have hclosed : u.keeps (u.setStack (u.stack.write i { e with tag := .closed })) [.stack] := by
        simp [State.keeps_iff]
      exact State.flowsTo.of_result ((State.flowsTo.of_keeps hclosed
        ((offerSequence_flowsTo _ _).mono (by simp))).andThen_on fun v => v.keeps_respond _ _) h
    · exact (refuseStack_stepsTo h).mono (by simp)

/-! ## Requests that begin the engine's work -/

theorem State.keeps_setJob (s : State) (j : Job) : s.keeps (s.setJob j) [.job] := by
  simp [State.keeps_iff]

/-- A step that only begins or ends work of the engine's. -/
theorem setJob_stepsTo {j : Job} (h : (Host.Outcome.next (s.setJob j) : Result) = .next t) :
    s.stepsTo t [.job] := by
  cases h
  exact .inl (s.keeps_setJob j)

theorem execExtend_stepsTo (h : execExtend s = .next t) : s.stepsTo t [.job] :=
  takeRequest_stepsTo h fun _ u h => by
    split at h
    · exact setJob_stepsTo h
    · exact (refuseStack_stepsTo h).mono (by simp)

theorem execGetIdentity_stepsTo (h : execGetIdentity s = .next t) : s.stepsTo t [.job] :=
  takeRequest_stepsTo h fun _ _ h => setJob_stepsTo h

theorem execQuote_stepsTo (h : execQuote s = .next t) : s.stepsTo t [.job] :=
  takeRequest_stepsTo h fun _ u h => by
    obtain ⟨b, -, h⟩ := withBooted_next h
    dsimp only at h
    split at h
    · cases h
    · refine .of_keeps ?_ (setJob_stepsTo h)
      simp [State.keeps_iff]

theorem State.keeps_engineTurn (s : State) : s.keeps s.engineTurn altered := by
  obtain ⟨hturn, hopen⟩ := engineTurn_spec s
  rw [hturn]
  simp only [State.keeps_iff]
  refine ⟨?_, ?_, fun _ h => ?_, ?_⟩
  case refine_3 => rw [State.setPort_port] at h ⊢; rw [hopen h]
  all_goals simp

theorem execStageUpdate_stepsTo (h : execStageUpdate s = .next t) : s.stepsTo t [.job] :=
  takeRequest_stepsTo h fun _ u h => by
    split at h
    · cases h
      refine .inl (.trans ?_ (State.keeps_engineTurn _))
      simp [State.keeps_iff]
    · exact respond_stepsTo h

theorem execSetOwner_stepsTo (h : execSetOwner s = .next t) : s.stepsTo t [.job] :=
  takeRequest_stepsTo h fun _ u h => unlessFrozen_stepsTo h fun h => by
    split at h
    · exact setJob_stepsTo h
    · split at h
      · exact respond_stepsTo h
      · exact setJob_stepsTo h
    all_goals exact respond_stepsTo h

theorem execUnlock_stepsTo (h : execUnlock s = .next t) : s.stepsTo t [.job] :=
  takeRequest_stepsTo h fun _ u h => by
    split at h
    case h_4 => exact setJob_stepsTo h
    all_goals exact respond_stepsTo h

theorem execRecover_stepsTo (h : execRecover s = .next t) : s.stepsTo t [.job] :=
  takeRequest_stepsTo h fun _ u h => by
    split at h
    · exact respond_stepsTo h
    · refine unlessFrozen_stepsTo h fun h => ?_
      iterate 4
        split at h
        · exact respond_stepsTo h
      exact setJob_stepsTo h

theorem execMacWithCredential_stepsTo (h : execMacWithCredential s = .next t) : s.stepsTo t [.job] :=
  takeRequest_stepsTo h fun _ _ h => useCredential_stepsTo h fun _ _ h => setJob_stepsTo h

/-! ## Requests that begin a write -/

theorem State.keeps_beginWrite (s : State) (w : Write) : s.keeps (s.beginWrite w) [.write] := by
  simp [State.keeps_iff]

/-- A step that only begins a write. -/
theorem beginWrite_stepsTo {w : Write} (h : (Host.Outcome.next (s.beginWrite w) : Result) = .next t) :
    s.stepsTo t [.write] := by
  cases h
  exact .inl (s.keeps_beginWrite w)

theorem execAbortUpdate_stepsTo (h : execAbortUpdate s = .next t) : s.stepsTo t [.write] :=
  takeRequest_stepsTo h fun _ u h => by
    split at h
    · exact respond_stepsTo h
    · refine .of_keeps ?_ (respond_stepsTo h)
      simp [State.keeps_iff]
    · exact beginWrite_stepsTo h
    · cases h

theorem finishConfirm_flowsTo (c : ConfirmSteps) (s : State) : s.flowsTo (finishConfirm c s) [] :=
  (State.flowsTo.of_keeps (s.keeps_setSchedule _) (offerSequence_flowsTo _ _)).andThen_on
    fun t => t.keeps_respond _ _

theorem confirmRevocation_flowsTo (b : Booted) (c : ConfirmSteps) (s : State) :
    s.flowsTo (confirmRevocation b c s) [.write] := by
  unfold confirmRevocation
  split
  · exact .on (s.keeps_beginWrite _)
  · exact (finishConfirm_flowsTo c s).mono (by simp)

theorem confirmEpoch_flowsTo (b : Booted) (c : ConfirmSteps) (s : State) :
    s.flowsTo (confirmEpoch b c s) [.write] := by
  unfold confirmEpoch
  split
  · exact .on (s.keeps_beginWrite _)
  · exact confirmRevocation_flowsTo b c s

theorem confirmSlots_flowsTo (b : Booted) (s : State) : s.flowsTo (confirmSlots b s) [.write] := by
  unfold confirmSlots
  dsimp only
  split
  · exact .on (s.keeps_beginWrite _)
  · exact confirmEpoch_flowsTo b _ s

theorem execConfirmBoot_stepsTo (h : execConfirmBoot s = .next t) : s.stepsTo t [.write] :=
  takeRequest_stepsTo h fun _ u h => by
    obtain ⟨b, -, h⟩ := withBooted_next h
    split at h
    · exact respond_stepsTo h
    · exact (confirmSlots_flowsTo b u).of_result h

theorem execSetRecoveryLevel_stepsTo (h : execSetRecoveryLevel s = .next t) : s.stepsTo t [.write] :=
  takeRequest_stepsTo h fun _ u h => by
    split at h
    · exact respond_stepsTo h
    · refine unlessFrozen_stepsTo h fun h => whereOwned_stepsTo h fun h => ?_
      split at h
      · exact respond_stepsTo h
      · exact beginWrite_stepsTo h

theorem State.keeps_beginWipe (s : State) : s.keeps s.beginWipe [.job, .write] := by
  simp [State.keeps_iff, State.beginWipe]

theorem execWipe_stepsTo (h : execWipe s = .next t) : s.stepsTo t [.job, .write] :=
  takeRequest_stepsTo h fun _ u h => unlessFrozen_stepsTo h fun h => whereOwned_stepsTo h fun h => by
    cases h
    exact .inl u.keeps_beginWipe

theorem execPutCredential_stepsTo (h : execPutCredential s = .next t) : s.stepsTo t [.write] :=
  takeRequest_stepsTo h fun _ u h => by
    split at h
    · exact respond_stepsTo h
    · exact unlessFrozen_stepsTo h fun h => whereOwned_stepsTo h fun h => beginWrite_stepsTo h

theorem execDeleteCredential_stepsTo (h : execDeleteCredential s = .next t) : s.stepsTo t [.write] :=
  takeRequest_stepsTo h fun _ u h => by
    split at h
    · exact respond_stepsTo h
    · refine unlessFrozen_stepsTo h fun h => whereOwned_stepsTo h fun h => ?_
      split at h
      · exact beginWrite_stepsTo h
      · exact respond_stepsTo h

end

end Sys2Proof.Machine
end

section
/-! PROOFS. What the part's own steps keep: completions, starts and their writes, lines and pins. -/

namespace Sys2Proof.Machine

section
variable {s t : State} {altered : List Field}

/-! ## Completions of requests -/

/-- A completion ends its operation and answers. -/
theorem State.keeps_completed (s : State) (j : Job) (status : Status) (body : Bytes) :
    s.keeps ((s.setJob j).respond status body) [.job] := by
  simp [State.keeps_iff]

theorem execExtendHashComplete_stepsTo (h : execExtendHashComplete s = .next t) :
    s.stepsTo t [.stack, .job] := by
  unfold execExtendHashComplete at h
  split at h
  · split at h
    · cases h
      refine .inl ?_
      simp [State.keeps_iff]
    · cases h
  · cases h
    exact .refl _ _

theorem execKeyDerivationComplete_stepsTo (h : execKeyDerivationComplete s = .next t) :
    s.stepsTo t [.job] := by
  unfold execKeyDerivationComplete at h
  split at h
  · split at h
    · obtain ⟨b, -, h⟩ := withBooted_next h
      cases h
      exact .inl (s.keeps_completed _ _ _)
    · cases h
  · cases h
    exact .refl _ _

theorem execQuoteSigned_stepsTo (h : execQuoteSigned s = .next t) : s.stepsTo t [.job] := by
  unfold execQuoteSigned at h
  split at h
  · split at h
    · cases h
      exact .inl (s.keeps_completed _ _ _)
    · cases h
  · cases h
    exact .refl _ _

theorem execMacComplete_stepsTo (h : execMacComplete s = .next t) : s.stepsTo t [.job] := by
  unfold execMacComplete at h
  split at h
  · split at h
    · cases h
      exact .inl (s.keeps_completed _ _ _)
    · cases h
  · cases h
    exact .refl _ _

/-- An operation ends and a write of it begins. -/
theorem State.keeps_setJob_beginWrite (s : State) (j : Job) (w : Write) :
    s.keeps ((s.setJob j).beginWrite w) [.job, .write] := by
  simp [State.keeps_iff]

theorem execVerifierComputed_stepsTo (h : execVerifierComputed s = .next t) :
    s.stepsTo t [.job, .write] := by
  unfold execVerifierComputed at h
  split at h
  · split at h
    · cases h
      exact .inl (s.keeps_setJob_beginWrite _ _)
    · cases h
  · cases h
    exact .refl _ _

theorem execEngineGranuleErase_stepsTo (h : execEngineGranuleErase s = .next t) :
    s.stepsTo t [.job, .write] := by
  unfold execEngineGranuleErase at h
  split at h
  · split at h
    · cases h
      exact .inl (s.keeps_setJob_beginWrite _ _)
    · cases h
  · cases h
    exact .refl _ _

theorem ownerMatched_flowsTo (s : State) : s.flowsTo (ownerMatched s) [.job, .cred] := by
  refine State.flowsTo.andThen_on (.of_keeps ?_ ((offerSequence_flowsTo _ _).mono (by simp)))
    fun t => t.keeps_respond _ _
  simp [State.keeps_iff]

theorem execComparisonEnd_stepsTo (h : execComparisonEnd s = .next t) :
    s.stepsTo t [.job, .write, .cred] := by
  have hfailed : s.keeps (comparisonFailed s) [.job, .write, .cred] := by
    simp [State.keeps_iff, comparisonFailed]
  unfold execComparisonEnd at h
  split at h
  · split at h
    · split at h
      · exact ((ownerMatched_flowsTo s).of_result h).mono (by simp)
      · cases h
        exact .inl hfailed
    · split at h
      · cases h
        refine .inl ?_
        unfold recoveryMatched
        split
        · exact s.keeps_beginWipe.mono (by simp)
        · simp [State.keeps_iff]
      · cases h
        exact .inl hfailed
    · cases h
  · cases h
    exact .refl _ _

theorem stageFailed_flowsTo (address : Nat) (reason : VerifyReason) (region : Byte) (version : Nat)
    (s : State) : s.flowsTo (stageFailed address reason region version s) [] := by
  refine State.flowsTo.andThen_on (.of_keeps ?_ (logIncident_flowsTo _ _)) fun t => ?_
  all_goals simp [State.keeps_iff]

theorem execStageCheckComplete_stepsTo {copy content : FlashImage}
    (h : execStageCheckComplete copy content s = .next t) : s.stepsTo t [.job, .write] := by
  unfold execStageCheckComplete at h
  split at h
  · split at h
    · obtain ⟨b, -, h⟩ := withBooted_next h
      dsimp only at h
      have hended : s.keeps ((s.setJob .idle).setPort { s.port with openTx := .none }) [.job, .write] := by
        simp [State.keeps_iff]
      split at h
      · exact .of_keeps hended ((beginWrite_stepsTo h).mono (by simp))
      · exact .of_keeps hended (((stageFailed_flowsTo _ _ _ _ _).of_result h).mono (by simp))
    · cases h
  · cases h
    exact .refl _ _

/-! ## Selection -/

theorem State.keeps_beginCheck (s : State) (step : SelectStep) : s.keeps (s.beginCheck step) [.job] := by
  simp [State.keeps_iff, State.beginCheck, Fuses.engineReadTx]

theorem State.keeps_enterOther (s : State) : s.keeps s.enterOther [.job] := by
  unfold State.enterOther
  split <;> exact s.keeps_beginCheck _

theorem State.keeps_enterCommitted (s : State) : s.keeps s.enterCommitted [.job] := by
  unfold State.enterCommitted
  split
  · exact s.keeps_enterOther
  · exact s.keeps_beginCheck _

theorem State.keeps_beginSelection (s : State) (asserted : Bool) :
    s.keeps (s.beginSelection asserted) [.job, .write] := by
  unfold State.beginSelection
  split
  · exact (s.keeps_beginCheck _).mono (by simp)
  · split
    · split <;> exact (s.keeps_beginWrite _).mono (by simp)
    · exact s.keeps_enterCommitted.mono (by simp)

theorem State.keeps_trySelect (s : State) : s.keeps s.trySelect [.job, .write] := by
  unfold State.trySelect
  split
  · split
    · exact s.keeps_beginSelection _
    · exact .refl s _
  · exact .refl s _

theorem State.keeps_halt (s : State) : s.keeps s.halt [.boot, .job] := by
  simp [State.keeps_iff, State.halt]

theorem State.keeps_reject (s : State) (slot : Slot) : s.keeps (s.reject slot) [] := by
  simp [State.keeps_iff, State.reject]

theorem State.keeps_afterRejection (s : State) (step : SelectStep) :
    s.keeps (s.afterRejection step) [.boot, .job, .write] := by
  cases step with
  | pending slot =>
    exact ((s.keeps_reject slot).mono (by simp)).trans ((State.keeps_setJob_beginWrite _ _ _).mono (by simp))
  | committed => exact ((s.keeps_reject _).mono (by simp)).trans ((State.keeps_enterOther _).mono (by simp))
  | other => exact ((s.keeps_reject _).mono (by simp)).trans ((State.keeps_beginCheck _ _).mono (by simp))
  | recovery => exact s.keeps_halt.mono (by simp)

theorem recordRejection_flowsTo (address : Nat) (reason : VerifyReason) (region : Byte) (s : State) :
    s.flowsTo (recordRejection address reason region s) [] := by
  refine .of_keeps ?_ (logIncident_flowsTo _ _)
  simp [State.keeps_iff]

/-- Making tables live alters what the table holds, the verdict and the work; the log keeps its numbers. -/
theorem State.keeps_tablesLive (s : State) (step : SelectStep) (m : Manifest) (copy : Bytes) :
    s.keeps (s.tablesLive step m copy) [.boot, .regions, .job] := by
  simp [State.keeps_iff, State.tablesLive, LineUnit.load]
  exact id

theorem execManifestCheckComplete_stepsTo {copy content : FlashImage}
    (h : execManifestCheckComplete copy content s = .next t) :
    s.stepsTo t [.boot, .regions, .job, .write] := by
  unfold execManifestCheckComplete at h
  split at h
  · split at h
    · dsimp only at h
      split at h
      · cases h
        exact .inl ((s.keeps_tablesLive _ _ _).mono (by simp))
      · exact State.flowsTo.of_result (((recordRejection_flowsTo _ _ _ s).mono (by simp)).andThen_on
          fun u => (u.keeps_afterRejection _).mono (by simp)) h
    · cases h
  · cases h
    exact .refl _ _

/-! ## The end of start-up -/

theorem State.keeps_raiseFlag (s : State) (f : Flag) : s.keeps (s.raiseFlag f) altered := by
  simp [State.keeps_iff]

theorem finishStart_flowsTo (s : State) : s.flowsTo (finishStart s) [.job, .lines, .boot] := by
  refine State.flowsTo.andThen_on (.of_keeps ((s.keeps_setJob _).mono (by simp))
    ((offerSequence_flowsTo _ _).mono (by simp))) fun t => ?_
  simp [State.keeps_iff]

theorem State.keeps_withEntries (s : State) (b : Booted) : s.keeps (s.withEntries b) [.stack] := by
  refine State.keeps.trans (t := (s.setStack (s.startUpStack b)).setQuote
    { s.quote with startEpoch := some s.epoch }) (by simp [State.keeps_iff]) ?_
  unfold State.withEntries State.raiseVerdictFlag
  split
  · exact State.keeps_raiseFlag _ _
  · exact .refl _ _

theorem execStartUpEntries_stepsTo (h : execStartUpEntries s = .next t) :
    s.stepsTo t [.stack, .job, .lines, .boot] := by
  unfold execStartUpEntries at h
  split at h
  · split at h
    · rename_i b _ _ _
      dsimp only at h
      refine .of_keeps ((s.keeps_withEntries b).mono (by simp)) ?_
      split at h
      · cases h
        exact .inl (((State.keeps_setJob _ _).mono (by simp)).trans (State.keeps_engineTurn _))
      · exact ((finishStart_flowsTo _).of_result h).mono (by simp)
    · cases h
  · cases h
    exact .refl _ _

/-! ## Lines -/

theorem State.keeps_setCtl (s : State) (i : Fin 4) (c : CtlLine) : s.keeps (s.setCtl i c) altered := by
  simp [State.keeps_iff, State.setCtl]

theorem State.keeps_setL5 (s : State) (x : Sense) : s.keeps (s.setL5 x) altered := by
  simp [State.keeps_iff, State.setL5]

theorem execLinePinChange_stepsTo {line : Line} {high : Bool}
    (h : execLinePinChange line high s = .next t) : s.stepsTo t [] := by
  unfold execLinePinChange at h
  split at h
  · cases h
  · dsimp only at h
    split at h <;> cases h
    · exact .refl _ _
    · exact .inl (s.keeps_setCtl _ _)
  · dsimp only at h
    split at h
    · cases h
      exact .refl _ _
    · split at h <;> cases h <;> exact .inl (s.keeps_setL5 _)

theorem State.keeps_sampleL5 (s : State) (asserted : Bool) :
    s.keeps (s.sampleL5 asserted) [.job, .write] := by
  unfold State.sampleL5
  split
  · refine State.keeps.trans ?_ (State.keeps_trySelect _)
    split <;> simp [State.keeps_iff]
  · exact .refl s _

theorem settledChange_flowsTo (line : Line) (before : Option Bool) (level : Bool) (s : State) :
    s.flowsTo (settledChange line before level s) [.job, .write] := by
  unfold settledChange
  split
  · exact (fireWatch_flowsTo _ s).mono (by simp)
  · exact .on (s.keeps_sampleL5 level)
  · exact .on (.refl s _)

theorem execLineSettlingExpiry_stepsTo {line : Line} (h : execLineSettlingExpiry line s = .next t) :
    s.stepsTo t [.job, .write] := by
  unfold execLineSettlingExpiry at h
  split at h
  · split at h
    · cases h
    · dsimp only at h
      split at h
      · exact .of_keeps (s.keeps_setCtl _ _) ((settledChange_flowsTo _ _ _ _).of_result h)
      · cases h
    · dsimp only at h
      split at h
      · exact .of_keeps (s.keeps_setL5 _) ((settledChange_flowsTo _ _ _ _).of_result h)
      · cases h
  · cases h
    rw [settleWhileHeld_spec]
    exact .inl (s.keeps_setL5 _)

/-! ## The deadline -/

theorem execDeadlineExpiry_stepsTo (h : execDeadlineExpiry s = .next t) : s.stepsTo t [] := by
  unfold execDeadlineExpiry at h
  split at h
  · split at h
    · split at h <;> cases h
      · exact .start _ (s.keeps_recordIncident _)
      · exact .refl _ _
    · cases h
      exact .refl _ _
  · cases h
    exact .refl _ _

/-! ## Ready waits -/

theorem State.keeps_pollAgain (s : State) : s.keeps s.pollAgain [] := by
  unfold State.pollAgain
  split
  · simp [State.keeps_iff]
  · exact .refl s _

/-- The engine's next transaction opens nothing of the host's. -/
theorem State.keeps_setJob_setPort (s : State) (j : Job) {p : FlashPort}
    (hp : p.openTx.forwarded = false) : s.keeps ((s.setJob j).setPort p) [.job] := by
  simp [State.keeps_iff, OpenTransaction.OpensNothing.of_not_forwarded hp]

theorem execReadyWaitPoll_stepsTo {status : Byte} (h : execReadyWaitPoll status s = .next t) :
    s.stepsTo t [.job, .write] := by
  have hdone : readyWaitDone s = .next t → s.stepsTo t [.job, .write] := by
    intro h
    unfold readyWaitDone at h
    split at h
    · cases h
      exact .inl (((s.keeps_setJob_setPort _ rfl).mono (by simp)).trans (State.keeps_trySelect _))
    · obtain ⟨b, -, h⟩ := withBooted_next h
      cases h
      exact .inl ((s.keeps_setJob_setPort _ rfl).mono (by simp))
    · split at h <;> cases h
      exact .inl ((s.keeps_setJob_setPort _ rfl).mono (by simp))
    · cases h
      exact .inl ((s.keeps_setJob_setPort _ rfl).mono (by simp))
    · cases h
  unfold execReadyWaitPoll at h
  split at h
  · split at h
    iterate 2
      split at h
      · cases h
        exact .inl (s.keeps_pollAgain.mono (by simp))
      · exact hdone h
    all_goals cases h
  · cases h
    exact .refl _ _

/-! ## Supply and RESET_N -/

theorem execSupplyRise_stepsTo (h : execSupplyRise s = .next t) : s.stepsTo t [.pins, .host, .lines] := by
  unfold execSupplyRise at h
  split at h
  · cases h
  · split at h <;> cases h
    · refine .inl ?_
      simp [State.keeps_iff]
    · refine .start _ ?_
      simp [State.keeps_iff]

theorem execSupplyFall_stepsTo (h : execSupplyFall s = .next t) : s.stepsTo t [.pins] := by
  unfold execSupplyFall at h
  split at h <;> cases h
  refine .inr ⟨_, _, .inr rfl, ?_⟩
  simp [State.keeps_iff]

theorem execResetNAssert_stepsTo (h : execResetNAssert s = .next t) :
    s.stepsTo t [.pins, .host, .lines, .job, .write] := by
  unfold execResetNAssert at h
  split at h
  · cases h
  · dsimp only at h
    split at h <;> cases h <;> refine .inl ?_
    · simp [State.keeps_iff, State.heldByReset]
    · simp [State.keeps_iff]

theorem execResetNRelease_stepsTo (h : execResetNRelease s = .next t) : s.stepsTo t [.pins] := by
  unfold execResetNRelease at h
  split at h
  · dsimp only at h
    have hpins : s.keeps (s.setPins { s.pins with resetAsserted := false, coldPowerDue := false })
        [.pins] := by
      simp [State.keeps_iff]
    split at h <;> cases h
    · exact .start _ hpins
    · exact .inl hpins
  · cases h

/-! ## Writes -/

theorem whileSelecting_next {go : Result} (h : whileSelecting s go = .next t) :
    s.boot.phase = .selecting ∧ go = .next t := by
  unfold whileSelecting at h
  split at h
  · exact ⟨‹_›, h⟩
  · cases h

theorem State.keeps_setStore (s : State) (r : RecordStore) (h : r.slots = s.store.slots) :
    s.keeps (s.setStore r) altered := by
  simp [State.keeps_iff, h]

theorem State.keeps_setSlots (s : State) (v : SlotState) : s.keeps (s.setSlots v) [.store] := by
  simp [State.keeps_iff]

theorem bootCountEffect_keeps (s : State) : s.keeps (bootCountEffect s) [.boot, .job, .write] := by
  unfold bootCountEffect
  dsimp only
  refine State.keeps.trans (s.keeps_setStore { s.store with bootCount := satInc s.store.bootCount } rfl) ?_
  split
  · split
    · exact ((State.keeps_setJob _ _).mono (by simp)).trans (State.keeps_engineTurn _)
    · exact (State.keeps_trySelect _).mono (by simp)
  · exact (State.keeps_halt _).mono (by simp)

theorem revertCountEffect_flowsTo (slot : Slot) (expired : Bool) (s : State) :
    s.flowsTo (revertCountEffect slot expired s) [.job] := by
  refine State.flowsTo.andThen_on (.of_keeps ((s.keeps_setStore
    { s.store with revertCount := satInc s.store.revertCount } rfl).trans (State.keeps_raiseFlag _ .reverted)) ?_)
    fun t => t.keeps_enterCommitted
  unfold logExpired
  split
  · exact (logIncident_flowsTo _ _).mono (by simp)
  · exact .on (.refl _ _)

theorem pendingSetEffect_keeps (g : Staged) (s : State) : s.keeps (pendingSetEffect g s) [.store] := by
  simp [State.keeps_iff, pendingSetEffect]

theorem abortEffect_keeps (s : State) : s.keeps (abortEffect s) [.store] := by
  simp [State.keeps_iff, abortEffect, State.answerAbort]

theorem confirmSlotEffect_flowsTo (v : SlotState) (b : Booted) (s : State) :
    s.flowsTo (confirmSlotEffect v b s) [.store, .write] :=
  .of_keeps ((s.keeps_setSlots v).mono (by simp)) ((confirmEpoch_flowsTo b _ _).mono (by simp))

theorem State.keeps_setFuses (s : State) {f : Fuses} (h : f.grownFrom s.fuses) :
    s.keeps (s.setFuses f) altered := by
  simp [State.keeps_iff, h]

theorem confirmEpochEffect_flowsTo (c : ConfirmSteps) (b : Booted) (s : State) :
    s.flowsTo (confirmEpochEffect c b s) [.write] :=
  .of_keeps (s.keeps_setFuses (s.fuses.grownFrom_blow _)) (confirmRevocation_flowsTo b _ _)

theorem confirmRevokeEffect_flowsTo (c : ConfirmSteps) (b : Booted) (s : State) :
    s.flowsTo (confirmRevokeEffect c b s) [] :=
  .of_keeps (s.keeps_setFuses (s.fuses.grownFrom_revokeOther _)) (finishConfirm_flowsTo _ _)

theorem lockoutIfFive_flowsTo (s : State) : s.flowsTo (lockoutIfFive s) [.cred] := by
  unfold lockoutIfFive
  split
  · refine .of_keeps ?_ ((fireWatch_flowsTo _ _).mono (by simp))
    simp [State.keeps_iff]
  · exact .on (.refl s _)

theorem failedTotalEffect_flowsTo (s : State) : s.flowsTo (failedTotalEffect s) [.cred] := by
  unfold failedTotalEffect
  dsimp only
  refine State.flowsTo.andThen_on (State.flowsTo.andThen
    (.of_keeps ?_ ((logIncident_flowsTo _ _).mono (by simp)))
    fun t ht => .of_keeps ht (lockoutIfFive_flowsTo t)) fun t => t.keeps_respond _ _
  simp [State.keeps_iff]

theorem wipeEffect_keeps (spans : List Span) (s : State) : s.keeps (wipeEffect spans s) [.cred, .job] := by
  unfold wipeEffect
  dsimp only
  refine State.keeps.trans (t := (s.setStore (s.store.wiped spans)).setCred
    { s.cred with state := .unset }) (by simp [State.keeps_iff, RecordStore.wiped]) ?_
  split
  · exact State.keeps_respond _ _ _
  · refine State.keeps.trans ?_ (State.keeps_engineTurn _)
    simp [State.keeps_iff]

theorem markerEffect_flowsTo (m : WipeMarker) (s : State) :
    s.flowsTo (markerEffect m s) [.job, .lines, .boot] := by
  unfold markerEffect
  dsimp only
  refine .of_keeps (s.keeps_setStore { s.store with marker := m.advanced } rfl) ?_
  split
  · exact .on (((State.keeps_setJob _ _).mono (by simp)).trans (State.keeps_engineTurn _))
  · split
    · exact finishStart_flowsTo _
    · refine .on ?_
      simp [State.keeps_iff]

theorem ownerVerifierEffect_keeps (v : Bytes) (s : State) : s.keeps (ownerVerifierEffect v s) [.cred] := by
  simp [State.keeps_iff, ownerVerifierEffect]

theorem recoveryLevelEffect_keeps (level : RecoveryLevel) (s : State) :
    s.keeps (recoveryLevelEffect level s) [] := by
  simp [State.keeps_iff, recoveryLevelEffect]

theorem credentialEffect_keeps (index : Nat) (c : Option Credential) (s : State) :
    s.keeps (credentialEffect index c s) [] := by
  simp [State.keeps_iff, credentialEffect]

/-- The fields in which a write's taking effect can alter what an invariant reads, a start apart. -/
def alteredByWrite : Write → List Field
  | .bootCount => [.boot, .job, .write]
  | .trialDecrement _ => [.store, .job]
  | .pendingCleared _ _ | .confirmSlot _ => [.store, .write]
  | .revertCount _ _ => [.job]
  | .pendingSet _ | .abortPending => [.store]
  | .confirmEpoch _ => [.write]
  | .failedTotal | .ownerVerifier _ => [.cred]
  | .wipe _ => [.cred, .job]
  | .markerAdvance => [.job, .lines, .boot]
  | .confirmRevoke _ | .recoveryLevel _ | .putCredential _ _ | .deleteCredential _ => []

theorem writeEffect_stepsTo {w : Write} (h : writeEffect w s = .next t) :
    s.stepsTo t (alteredByWrite w) := by
  cases w with
  | bootCount =>
    obtain ⟨-, h⟩ := whileSelecting_next h
    cases h
    exact .inl (bootCountEffect_keeps s)
  | trialDecrement slot =>
    obtain ⟨-, h⟩ := whileSelecting_next h
    cases h
    exact .inl (((s.keeps_setSlots _).mono (by simp [alteredByWrite])).trans
      ((State.keeps_beginCheck _ _).mono (by simp [alteredByWrite])))
  | pendingCleared slot expired =>
    obtain ⟨-, h⟩ := whileSelecting_next h
    cases h
    exact .inl (((s.keeps_setSlots _).mono (by simp [alteredByWrite])).trans
      ((State.keeps_beginWrite _ _).mono (by simp [alteredByWrite])))
  | revertCount slot expired =>
    obtain ⟨-, h⟩ := whileSelecting_next h
    exact (revertCountEffect_flowsTo slot expired s).of_result h
  | pendingSet g =>
    cases h
    exact .inl (pendingSetEffect_keeps g s)
  | abortPending =>
    cases h
    exact .inl (abortEffect_keeps s)
  | confirmSlot v =>
    obtain ⟨b, -, h⟩ := withBooted_next h
    exact (confirmSlotEffect_flowsTo v b s).of_result h
  | confirmEpoch c =>
    obtain ⟨b, -, h⟩ := withBooted_next h
    exact (confirmEpochEffect_flowsTo c b s).of_result h
  | confirmRevoke c =>
    obtain ⟨b, -, h⟩ := withBooted_next h
    exact (confirmRevokeEffect_flowsTo c b s).of_result h
  | failedTotal => exact (failedTotalEffect_flowsTo s).of_result h
  | ownerVerifier v =>
    cases h
    exact .inl (ownerVerifierEffect_keeps v s)
  | recoveryLevel level =>
    cases h
    exact .inl (recoveryLevelEffect_keeps level s)
  | wipe spans =>
    cases h
    exact .inl (wipeEffect_keeps spans s)
  | markerAdvance =>
    simp only [writeEffect] at h
    split at h
    · exact (markerEffect_flowsTo _ s).of_result h
    · cases h
  | putCredential index c =>
    cases h
    exact .inl (credentialEffect_keeps index _ s)
  | deleteCredential index =>
    cases h
    exact .inl (credentialEffect_keeps index _ s)

theorem State.keeps_setWrite (s : State) (w : Option Write) : s.keeps (s.setWrite w) [.write] := by
  simp [State.keeps_iff]

theorem alteredByWrite_subset (w : Write) :
    alteredByWrite w ⊆ [.store, .cred, .job, .write, .boot, .lines] := by
  cases w <;> simp [alteredByWrite]

theorem execWriteTakesEffect_stepsTo (h : execWriteTakesEffect s = .next t) :
    s.stepsTo t [.store, .cred, .job, .write, .boot, .lines] := by
  unfold execWriteTakesEffect at h
  split at h
  · split at h
    · exact .of_keeps ((s.keeps_setWrite none).mono (by simp)) ((writeEffect_stepsTo h).mono (alteredByWrite_subset _))
    · cases h
  · cases h
    exact .refl _ _

end

end Sys2Proof.Machine
end

section
/-! PROOFS. What the host's bytes keep: instruction bytes, completed addresses with what they open, the bytes either
side drives, and the two edges of HCS_N; then what every command keeps. -/

namespace Sys2Proof.Machine

/-- The state whose transaction has completed its address (R6). -/
def State.addressed (s : State) (e : ClassEntry) (address : Bytes) : State :=
  s.setHost { s.host with
    addrBytes := address, addr := some (ofBe address % s.flashSize), phase := e.afterAddress }

/-- The same transaction before and after its decision: entry and phase stand. -/
structure HostRecord.DecidedAs (h k : HostRecord) : Prop where
  entry : k.entry = h.entry
  phase : k.phase = h.phase

/-- What the decision at an address comes to: the record takes a decision that opens nothing, and an incident may
follow; or the decision is FORWARD, to a physical address that meets `opens`, and nothing else happens. -/
def State.decides (s : State) (f : Flow) (opens : Nat → Prop) : Prop :=
  (∃ k, s.host.DecidedAs k ∧ (s.setHost k).flowsTo f []) ∨
    ∃ k p, s.host.DecidedAs k ∧ k.decision = some .forward ∧ opens p ∧
      f = .on ((s.setHost k).openForwarded (some p))

section
variable {s t : State} {altered : List Field}

/-! ## Instruction bytes -/

/-- An instruction byte that arrives is taken and handled, or changes nothing. -/
theorem onInstruction_next {admitted : InstrClass → Bool} {b : Byte} {go : State → Result}
    (h : onInstruction admitted b s go = .next t) :
    t = s ∨ (s.host.phase = .instruction ∧ admitted (s.classify b).cls = true ∧
      go (s.takeByte b) = .next t) := by
  unfold onInstruction at h
  split at h
  · split at h
    · cases h
      exact .inl rfl
    · split at h
      · exact .inr ⟨‹_›, ‹_›, h⟩
      · cases h
    all_goals cases h
  · cases h
    exact .inl rfl

theorem State.keeps_takeByte (s : State) (b : Byte) : s.keeps (s.takeByte b) [.host] := by
  simp [State.keeps_iff, State.takeByte]

theorem State.keeps_setDecision (s : State) (d : Decision) : s.keeps (s.setDecision d) [.host] := by
  simp [State.keeps_iff]

/-- An instruction byte's step keeps what its handling keeps. -/
theorem onInstruction_stepsTo {admitted : InstrClass → Bool} {b : Byte} {go : State → Result}
    (h : onInstruction admitted b s go = .next t) (hh : .host ∈ altered)
    (k : ∀ u, go u = .next t → u.stepsTo t altered) : s.stepsTo t altered := by
  rcases onInstruction_next h with rfl | ⟨-, -, h⟩
  · exact .refl _ _
  · exact .of_keeps ((s.keeps_takeByte b).mono (by simpa using hh)) (k _ h)

theorem execDeny_stepsTo {b : Byte} (h : execDeny b s = .next t) : s.stepsTo t [.host] :=
  onInstruction_stepsTo h (by simp) fun u h =>
    .of_keeps (u.keeps_setDecision .fill) (((logIncident_flowsTo _ _).of_result h).mono (by simp))

theorem execEraseAll_stepsTo {b : Byte} (h : execEraseAll b s = .next t) : s.stepsTo t [.host] :=
  onInstruction_stepsTo h (by simp) fun u h =>
    .of_keeps (u.keeps_setDecision .refuse) (((logIncident_flowsTo _ _).of_result h).mono (by simp))

theorem execInstructionByte_stepsTo {b : Byte} (h : execInstructionByte b s = .next t) :
    s.stepsTo t [.host] :=
  onInstruction_stepsTo h (by simp) fun u h => by
    cases h
    exact .refl _ _

theorem logPortHeld_flowsTo (a : Nat) (s : State) : s.flowsTo (logPortHeld a s) [] :=
  logIncident_flowsTo _ s

theorem State.keeps_openForwarded (s : State) (p : Option Nat) :
    s.keeps (s.openForwarded p) [.host, .port] := by
  simp [State.keeps_iff]

theorem forwardUnexamined_stepsTo {held : Decision} (h : forwardUnexamined held s = .next t) :
    s.stepsTo t [.host, .port] := by
  unfold forwardUnexamined at h
  split at h
  · exact .of_keeps ((s.keeps_setDecision held).mono (by simp))
      (((logPortHeld_flowsTo _ _).of_result h).mono (by simp))
  · cases h
    exact .inl (((s.keeps_setDecision .forward).mono (by simp)).trans (State.keeps_openForwarded _ _))

/-- An unexamined class's instruction byte, whichever the class. -/
theorem onInstruction_forwardUnexamined_stepsTo {admitted : InstrClass → Bool} {b : Byte} {held : Decision}
    (h : onInstruction admitted b s (forwardUnexamined held) = .next t) : s.stepsTo t [.host, .port] :=
  onInstruction_stepsTo h (by simp) fun _ h => forwardUnexamined_stepsTo h

/-! ## Completed addresses -/

/-- An address that arrives is decided on, or changes nothing. -/
theorem onAddress_next {cls : InstrClass} {address : Bytes} {go : ClassEntry → Nat → State → Result}
    (h : onAddress cls address s go = .next t) :
    t = s ∨ ∃ e, s.host.phase = .address ∧ s.host.entry = some e ∧ e.cls = cls ∧
      address.length = e.addrLen ∧
      go e (ofBe address % s.flashSize) (s.addressed e address) = .next t := by
  unfold onAddress at h
  split at h
  · split at h
    · cases h
      exact .inl rfl
    · split at h
      · split at h
        · exact .inr ⟨_, ‹_›, ‹_›, ‹_›, ‹_›, h⟩
        · cases h
      · cases h
    · cases h
  · cases h
    exact .inl rfl

theorem State.decides.flowsTo {f : Flow} {opens : Nat → Prop} (h : s.decides f opens) :
    s.flowsTo f [.host, .port] := by
  have hrecord : ∀ k, s.keeps (s.setHost k) [.host, .port] := fun k => by simp [State.keeps_iff]
  rcases h with ⟨k, -, h⟩ | ⟨k, p, -, -, -, rfl⟩
  · exact .of_keeps (hrecord k) (h.mono (by simp))
  · exact .on ((hrecord k).trans (State.keeps_openForwarded _ _))

/-- An address's step keeps all but the record and the port, where its decision does. -/
theorem onAddress_stepsTo {cls : InstrClass} {address : Bytes} {decide : ClassEntry → Nat → State → Flow}
    (h : onAddress cls address s (fun e a u => (decide e a u).result) = .next t)
    (k : ∀ e a (u : State), u.flowsTo (decide e a u) [.host, .port]) : s.stepsTo t [.host, .port] := by
  rcases onAddress_next h with rfl | ⟨e, -, -, -, -, h⟩
  · exact .refl _ _
  · refine .of_keeps ?_ ((k _ _ _).of_result h)
    simp [State.keeps_iff, State.addressed]

theorem refuseWrite_decides (seg : Segment) (detail : Byte) (a : Nat) (s : State) (opens : Nat → Prop) :
    s.decides (refuseWrite seg detail a s) opens :=
  .inl ⟨_, ⟨by rfl, by rfl⟩, logIncident_flowsTo _ _⟩

theorem absorbWrite_decides (a : Nat) (s : State) (opens : Nat → Prop) :
    s.decides (absorbWrite a s) opens :=
  .inl ⟨_, ⟨by rfl, by rfl⟩, logIncident_flowsTo _ _⟩

theorem forwardWrite_decides {e : ClassEntry} {seg : Segment} {a p : Nat} {opens : Nat → Prop}
    (h : opens p) : s.decides (forwardWrite e seg a p s) opens := by
  unfold forwardWrite
  split
  · exact .inr ⟨_, p, ⟨by rfl, by rfl⟩, by rfl, h, rfl⟩
  · exact refuseWrite_decides _ _ _ _ _

/-- A PROGRAM is forwarded where the rule of its address is OPEN, outside the window, to the translation (R38). -/
theorem decideProgram_decides (e : ClassEntry) (a : Nat) (s : State) :
    s.decides (decideProgram e a s) fun p => s.effectiveRule (s.lookup a) = .openAll ∧
      p = s.translate (s.lookup a) a := by
  unfold decideProgram
  dsimp only
  split
  · unfold decideWindowProgram
    split
    · exact .inl ⟨_, ⟨by rfl, by rfl⟩, .on (.refl _ _)⟩
    · exact .inl ⟨_, ⟨by rfl, by rfl⟩, logIncident_flowsTo _ _⟩
  · split
    · exact absorbWrite_decides _ _ _
    · split
      · exact forwardWrite_decides ⟨‹_›, rfl⟩
      · exact refuseWrite_decides _ _ _ _ _

/-- An erase is forwarded where its span lies in one segment whose rule is OPEN and is aligned (R43). -/
theorem decideErase_decides (size : Nat) (e : ClassEntry) (a : Nat) (s : State) :
    s.decides (decideErase size e a s) fun p =>
      s.lookup (a - a % size + size - 1) = s.lookup (a - a % size) ∧
      s.effectiveRule (s.lookup (a - a % size)) = .openAll ∧
      p = s.translate (s.lookup (a - a % size)) (a - a % size) ∧ p % size = 0 := by
  unfold decideErase
  dsimp only
  split
  · exact absorbWrite_decides _ _ _
  · split
    · exact refuseWrite_decides _ _ _ _ _
    · rename_i hnone
      unfold eraseRefusal at hnone
      dsimp only at hnone
      iterate 3
        split at hnone
        · cases hnone
      exact forwardWrite_decides ⟨not_ne_iff.mp ‹_›, not_ne_iff.mp ‹_›, rfl, not_ne_iff.mp ‹_›⟩

/-- A stream goes on with its fill incident, whether or not it logs it. -/
theorem State.keeps_setHost {k : HostRecord} (h : s.host.GoesOn k) : s.keeps (s.setHost k) altered := by
  simp [State.keeps_iff, h]

theorem logFill_flowsTo (i : Incident) (s : State) : s.flowsTo (logFill i s) [] := by
  unfold logFill
  split
  · exact .on (.refl s _)
  · exact .of_keeps (State.keeps_setHost (.of_eq)) (logIncident_flowsTo _ _)

theorem decideRead_decides (e : ClassEntry) (a : Nat) (s : State) :
    s.decides (decideRead e a s) fun _ => True := by
  unfold decideRead
  dsimp only
  split
  · exact .inl ⟨_, ⟨by rfl, by rfl⟩, .on (.refl _ _)⟩
  · split
    · exact .inl ⟨_, ⟨by rfl, by rfl⟩, logIncident_flowsTo _ _⟩
    · split
      · exact .inl ⟨_, ⟨by rfl, by rfl⟩, logFill_flowsTo _ _⟩
      · split
        · exact .inr ⟨_, _, ⟨by rfl, by rfl⟩, by rfl, trivial, rfl⟩
        · exact .inl ⟨_, ⟨by rfl, by rfl⟩, logFill_flowsTo _ _⟩

theorem countOverrun_flowsTo (s : State) : s.flowsTo (countOverrun s) [] := by
  refine .of_keeps ?_ (logIncident_flowsTo _ _)
  simp [State.keeps_iff]

theorem eraseRequestGranule_flowsTo (s : State) : s.flowsTo (eraseRequestGranule s) [] := by
  unfold eraseRequestGranule
  split
  · exact .on (.refl s _)
  · refine .on ?_
    simp [State.keeps_iff]
  · refine .on ?_
    simp [State.keeps_iff]
  · exact countOverrun_flowsTo s

theorem eraseWindow_decides (a : Nat) (s : State) (opens : Nat → Prop) :
    s.decides (eraseWindow a s) opens := by
  unfold eraseWindow
  split
  · exact .inl ⟨_, ⟨by rfl, by rfl⟩, eraseRequestGranule_flowsTo _⟩
  · exact .inl ⟨_, ⟨by rfl, by rfl⟩, .on (.refl _ _)⟩

/-- An ERASE_4K's decision, in the window and outside it. -/
def decideErase4k (e : ClassEntry) (a : Nat) (s : State) : Flow :=
  if s.isMailbox (s.lookup a) then eraseWindow a s else decideErase 4096 e a s

theorem execErase4k_eq (address : Bytes) (s : State) :
    execErase4k address s = onAddress .erase4k address s fun e a u => (decideErase4k e a u).result := by
  unfold execErase4k decideErase4k
  congr 1
  funext e a u
  split <;> rfl

theorem decideErase4k_decides (e : ClassEntry) (a : Nat) (s : State) :
    s.decides (decideErase4k e a s) fun p =>
      s.lookup (a - a % 4096 + 4096 - 1) = s.lookup (a - a % 4096) ∧
      s.effectiveRule (s.lookup (a - a % 4096)) = .openAll ∧
      p = s.translate (s.lookup (a - a % 4096)) (a - a % 4096) ∧ p % 4096 = 0 := by
  unfold decideErase4k
  split
  · exact eraseWindow_decides _ _ _
  · exact decideErase_decides 4096 e a s

/-! ## Bytes the host reads -/

/-- A dummy byte leaves the transaction in its dummy phase or beyond. -/
theorem HostRecord.goesOn_dummyByte {h : HostRecord} (e : ClassEntry) (hp : h.phase = .dummy) :
    h.GoesOn (h.dummyByte e) := by
  unfold HostRecord.dummyByte ClassEntry.afterDummy
  constructor <;> simp [hp] <;> split <;> first | simp | (split <;> simp)

theorem State.keeps_read (s : State) (e : ClassEntry) : s.keeps (s.read e) [] := by
  unfold State.read
  split
  · exact State.keeps_setHost (HostRecord.goesOn_dummyByte e ‹_›)
  all_goals exact .refl s _

theorem State.keeps_drive (s : State) (b : Byte) : s.keeps (s.drive b) [] :=
  State.keeps_setHost (.of_eq)

/-- Closing what is forwarded leaves nothing of the host's open. -/
@[simp] theorem FlashPort.closeHost_forwarded (p : FlashPort) :
    p.closeHost.openTx.forwarded = false := by
  unfold FlashPort.closeHost
  split
  · rfl
  · rename_i hother
    cases h : p.openTx with
    | host b l q x => exact absurd h (hother b l q x)
    | _ => rfl

@[simp] theorem FlashPort.opensNothing_closeHost (x : OpenTransaction) (p : FlashPort) :
    x.OpensNothing p.closeHost.openTx :=
  .of_not_forwarded p.closeHost_forwarded

theorem State.keeps_latchFill (s : State) : s.keeps s.latchFill [] := by
  have hclose : s.keeps (s.setPort s.port.closeHost) [] := by simp [State.keeps_iff]
  exact hclose.trans (State.keeps_setHost (.of_eq))

theorem logFill_latchFill_flowsTo (i : Incident) (s : State) : s.flowsTo (logFill i s.latchFill) [] :=
  .of_keeps s.keeps_latchFill (logFill_flowsTo i _)

theorem State.keeps_deliver (s : State) (st : ReadStream) (seg : Segment) (p : Nat) (b : Byte) :
    s.keeps (s.deliver st seg p b) [] :=
  State.keeps_setHost (.of_eq)

theorem flashByte_flowsTo (flash : Byte) (e : ClassEntry) (st : ReadStream) (a : Nat) (s : State) :
    s.flowsTo (flashByte flash e st a s) [] := by
  unfold flashByte
  split
  · unfold newSegmentByte
    dsimp only
    iterate 3
      split
      · exact logFill_latchFill_flowsTo _ s
    split
    · exact .on (s.keeps_deliver _ _ _ _)
    · exact logFill_latchFill_flowsTo _ s
  · unfold sameSegmentByte
    extract_lets p
    split
    · exact logFill_latchFill_flowsTo _ s
    · split
      · exact .on (s.keeps_deliver _ _ _ _)
      · exact logFill_latchFill_flowsTo _ s

theorem windowByte_flowsTo (st : ReadStream) (a : Nat) (s : State) : s.flowsTo (windowByte st a s) [] := by
  unfold windowByte
  split
  · exact logFill_latchFill_flowsTo _ s
  · exact .on (State.keeps_setHost (.of_eq))

theorem streamByte_stepsTo {flash : Byte} {e : ClassEntry} (h : streamByte flash e s = .next t) :
    s.stepsTo t [] := by
  unfold streamByte at h
  split at h
  · split at h
    · cases h
      exact .inl (s.keeps_drive _)
    · dsimp only at h
      split at h
      · exact (flashByte_flowsTo _ _ _ _ s).of_result h
      · exact (windowByte_flowsTo _ _ s).of_result h
  · cases h

theorem execReadStreamByte_stepsTo {flash : Byte} (h : execReadStreamByte flash s = .next t) :
    s.stepsTo t [] := by
  unfold execReadStreamByte at h
  split at h
  · split at h
    · cases h
      exact .inl (s.keeps_drive _)
    · cases h
    · split at h
      · cases h
      · split at h
        · cases h
          exact .inl (s.keeps_read _)
        · exact streamByte_stepsTo h
      all_goals
        cases h
        exact .inl ((s.keeps_read _).trans (State.keeps_drive _ _))
    · cases h
  · cases h
    exact .refl _ _

/-! ## Bytes the host sends -/

/-- An address byte leaves the transaction in its address phase or beyond. -/
theorem HostRecord.goesOn_addressByte {h : HostRecord} (e : ClassEntry) (b : Byte)
    (hp : h.phase = .address) : h.GoesOn (h.addressByte e b) := by
  unfold HostRecord.addressByte ClassEntry.afterAddress ClassEntry.afterDummy
  constructor <;> simp [hp] <;> split <;> first | simp | (split <;> first | simp | (split <;> simp))

theorem State.keeps_sent (s : State) (e : ClassEntry) (b : Byte) : s.keeps (s.sent e b) [] := by
  unfold State.sent
  split
  · exact State.keeps_setHost (HostRecord.goesOn_addressByte e b ‹_›)
  · exact State.keeps_setHost (HostRecord.goesOn_dummyByte e ‹_›)
  all_goals exact .refl s _

theorem State.keeps_sendOn (s : State) (b : Byte) : s.keeps (s.sendOn b) [] := by
  unfold State.sendOn
  split
  · rename_i byte lanes physical last hopen
    simp [State.keeps_iff, hopen, OpenTransaction.OpensNothing, OpenTransaction.unsent]
  · exact .refl s _

theorem State.keeps_discardRest (s : State) : s.keeps s.discardRest [] :=
  State.keeps_setHost (.of_eq)

theorem State.keeps_setWindow (s : State) (w : Window) : s.keeps (s.setWindow w) [] := by
  simp [State.keeps_iff]

theorem forwardedByte_flowsTo (b : Byte) (a : Nat) (s : State) : s.flowsTo (forwardedByte b a s) [] := by
  unfold forwardedByte
  dsimp only
  split
  · exact .on (.refl s _)
  · split
    · exact .on (s.keeps_sendOn b)
    · have hclose : s.keeps (s.setPort s.port.closeHost) [] := by simp [State.keeps_iff]
      exact .of_keeps (hclose.trans (State.keeps_discardRest _)) (logIncident_flowsTo _ _)

theorem logBreak_flowsTo (detail : Byte) (s : State) : s.flowsTo (logBreak detail s) [] := by
  unfold logBreak
  split
  · exact .on (.refl s _)
  · exact .of_keeps (State.keeps_setHost (.of_eq)) (logIncident_flowsTo _ _)

theorem State.keeps_dispatch (s : State) (h : FrameHeader) : s.keeps (s.dispatch h) [] := by
  unfold State.dispatch
  split
  · exact s.keeps_respond _ _
  · split
    · exact s.keeps_setWindow _
    · exact s.keeps_respond _ _

theorem appendByte_flowsTo (b : Byte) (s : State) : s.flowsTo (appendByte b s) [] := by
  unfold appendByte
  dsimp only
  refine .of_keeps (s.keeps_setWindow
    { s.window with state := .assembling, buffer := s.window.buffer ++ [b] }) ?_
  split
  · unfold headerComplete
    dsimp only
    split
    · exact .on (State.keeps_setWindow _ _)
    · exact .of_keeps ((State.keeps_setWindow _ _).trans (State.keeps_discardRest _))
        (logIncident_flowsTo _ _)
  · split
    · unfold frameComplete
      dsimp only
      split
      · exact .on (((State.keeps_setWindow _ _).trans (State.keeps_discardRest _)).trans
          (State.keeps_dispatch _ _))
      · exact .of_keeps ((State.keeps_setWindow _ _).trans (State.keeps_discardRest _))
          (logIncident_flowsTo _ _)
    · exact .on (.refl _ _)

theorem firstByte_flowsTo (b : Byte) (w : Nat) (s : State) : s.flowsTo (firstByte b w s) [] := by
  unfold firstByte
  split
  · exact .of_keeps s.keeps_discardRest (countOverrun_flowsTo _)
  iterate 2
    split
    · exact appendByte_flowsTo b s
    · exact .of_keeps s.keeps_discardRest (logBreak_flowsTo _ _)
  · split
    · exact appendByte_flowsTo b s
    · split
      · exact (State.flowsTo.of_keeps (s.keeps_setWindow _) (logBreak_flowsTo _ _)).andThen
          fun t ht => .of_keeps ht (appendByte_flowsTo b t)
      · exact .of_keeps ((s.keeps_setWindow _).trans (State.keeps_discardRest _)) (logBreak_flowsTo _ _)

theorem laterByte_flowsTo (b : Byte) (w j : Nat) (s : State) : s.flowsTo (laterByte b w j s) [] := by
  unfold laterByte
  split
  · split
    · exact appendByte_flowsTo b s
    · exact .of_keeps ((s.keeps_setWindow _).trans (State.keeps_discardRest _)) (logBreak_flowsTo _ _)
  all_goals exact .on s.keeps_discardRest

theorem assembleByte_flowsTo (b : Byte) (w : Nat) (s : State) : s.flowsTo (assembleByte b w s) [] := by
  unfold assembleByte
  dsimp only
  refine .of_keeps (State.keeps_setHost
    (k := { s.host with dataCount := s.host.dataCount + 1 }) (.of_eq)) ?_
  split
  · exact .on (.refl _ _)
  · split
    · exact firstByte_flowsTo _ _ _
    · exact laterByte_flowsTo _ _ _ _

theorem programByte_stepsTo {b : Byte} {d : Decision} (h : programByte b d s = .next t) :
    s.stepsTo t [] := by
  unfold programByte at h
  split at h
  · exact (forwardedByte_flowsTo _ _ s).of_result h
  · split at h
    · exact (assembleByte_flowsTo _ _ s).of_result h
    · cases h
  · cases h
    exact .refl _ _

theorem execProgramDataByte_stepsTo {b : Byte} (h : execProgramDataByte b s = .next t) :
    s.stepsTo t [] := by
  unfold execProgramDataByte at h
  split at h
  · split at h
    · cases h
      exact .refl _ _
    · cases h
    · split at h
      · exact programByte_stepsTo h
      · split at h <;> cases h
        exact .inl (s.keeps_sent _ _)
      iterate 2
        cases h
        exact .inl ((s.keeps_sent _ _).trans (State.keeps_sendOn _ _))
      · cases h
        exact .inl (s.keeps_sent _ _)
    · cases h
  · cases h
    exact .refl _ _

/-! ## HCS_N -/

theorem execHostTransactionBegin_stepsTo (h : execHostTransactionBegin s = .next t) :
    s.stepsTo t [.pins, .host] := by
  unfold execHostTransactionBegin at h
  split at h
  · cases h
  · dsimp only at h
    split at h
    · cases h
      refine .inl ?_
      simp [State.keeps_iff]
    · split at h <;> cases h <;> refine .inl ?_ <;> simp [State.keeps_iff]

theorem execHostTransactionEnd_stepsTo (h : execHostTransactionEnd s = .next t) :
    s.stepsTo t [.pins, .host] := by
  unfold execHostTransactionEnd at h
  split at h <;> cases h
  refine .inl (.trans ?_ (State.keeps_engineTurn _))
  simp [State.keeps_iff]

end

/-! ## Every command -/

/-- The fields in which a command can alter what an invariant reads, a start apart. -/
def alteredBy : Instr → List Field
  | .deny _ | .eraseAll _ | .instructionByte _ => [.host]
  | .pass _ | .writeEnable _ | .writeDisable _ | .statusRead _ | .read _ | .program _ | .erase4k _
  | .erase32k _ | .erase64k _ => [.host, .port]
  | .hostTransactionBegin | .hostTransactionEnd => [.pins, .host]
  | .supplyRise => [.pins, .host, .lines]
  | .supplyFall | .resetNRelease => [.pins]
  | .resetNAssert => [.pins, .host, .lines, .job, .write]
  | .manifestCheckComplete _ _ => [.boot, .regions, .job, .write]
  | .startUpEntries => [.stack, .job, .lines, .boot]
  | .openStage | .closeStage => [.stack]
  | .extendHashComplete => [.stack, .job]
  | .extend | .getIdentity | .keyDerivationComplete | .quote | .quoteSigned | .stageUpdate | .setOwner
  | .unlock | .recover | .macWithCredential | .macComplete => [.job]
  | .abortUpdate | .confirmBoot | .setRecoveryLevel | .putCredential | .deleteCredential => [.write]
  | .lineSettlingExpiry _ | .readyWaitPoll _ | .engineGranuleErase | .stageCheckComplete _ _
  | .verifierComputed | .wipe => [.job, .write]
  | .comparisonEnd => [.job, .write, .cred]
  | .writeTakesEffect => [.store, .cred, .job, .write, .boot, .lines]
  | .readStreamByte _ | .programDataByte _ | .linePinChange _ _ | .deadlineExpiry | .getStatus | .setLines
  | .tightenRegion | .reboot | .readMeasurements | .openUpdate | .lock | .freeze | .getCredential
  | .listCredentials | .readLog => []

/-- Every command keeps what the invariants read of the fields it does not alter, or begins a start. -/
theorem exec_stepsTo {c : Instr} {s t : State} (h : exec c s = .next t) : s.stepsTo t (alteredBy c) := by
  cases c with
  | hostTransactionBegin => exact execHostTransactionBegin_stepsTo h
  | hostTransactionEnd => exact execHostTransactionEnd_stepsTo h
  | deny b => exact execDeny_stepsTo h
  | eraseAll b => exact execEraseAll_stepsTo h
  | instructionByte b => exact execInstructionByte_stepsTo h
  | pass b | writeEnable b | writeDisable b | statusRead b =>
    exact onInstruction_forwardUnexamined_stepsTo h
  | read address => exact onAddress_stepsTo h fun e a u => (decideRead_decides e a u).flowsTo
  | program address => exact onAddress_stepsTo h fun e a u => (decideProgram_decides e a u).flowsTo
  | erase4k address =>
    exact onAddress_stepsTo ((execErase4k_eq _ _).symm.trans h)
      fun e a u => (decideErase4k_decides e a u).flowsTo
  | erase32k address => exact onAddress_stepsTo h fun e a u => (decideErase_decides _ e a u).flowsTo
  | erase64k address => exact onAddress_stepsTo h fun e a u => (decideErase_decides _ e a u).flowsTo
  | readStreamByte flash => exact execReadStreamByte_stepsTo h
  | programDataByte b => exact execProgramDataByte_stepsTo h
  | readyWaitPoll status => exact execReadyWaitPoll_stepsTo h
  | engineGranuleErase => exact execEngineGranuleErase_stepsTo h
  | supplyRise => exact execSupplyRise_stepsTo h
  | supplyFall => exact execSupplyFall_stepsTo h
  | resetNAssert => exact execResetNAssert_stepsTo h
  | resetNRelease => exact execResetNRelease_stepsTo h
  | manifestCheckComplete copy content => exact execManifestCheckComplete_stepsTo h
  | startUpEntries => exact execStartUpEntries_stepsTo h
  | linePinChange line high => exact execLinePinChange_stepsTo h
  | lineSettlingExpiry line => exact execLineSettlingExpiry_stepsTo h
  | deadlineExpiry => exact execDeadlineExpiry_stepsTo h
  | getStatus => exact execGetStatus_stepsTo h
  | setLines => exact execSetLines_stepsTo h
  | tightenRegion => exact execTightenRegion_stepsTo h
  | reboot => exact execReboot_stepsTo h
  | openStage => exact execOpenStage_stepsTo h
  | extend => exact execExtend_stepsTo h
  | extendHashComplete => exact execExtendHashComplete_stepsTo h
  | closeStage => exact execCloseStage_stepsTo h
  | readMeasurements => exact execReadMeasurements_stepsTo h
  | getIdentity => exact execGetIdentity_stepsTo h
  | keyDerivationComplete => exact execKeyDerivationComplete_stepsTo h
  | quote => exact execQuote_stepsTo h
  | quoteSigned => exact execQuoteSigned_stepsTo h
  | openUpdate => exact execOpenUpdate_stepsTo h
  | stageUpdate => exact execStageUpdate_stepsTo h
  | stageCheckComplete copy content => exact execStageCheckComplete_stepsTo h
  | abortUpdate => exact execAbortUpdate_stepsTo h
  | confirmBoot => exact execConfirmBoot_stepsTo h
  | setOwner => exact execSetOwner_stepsTo h
  | verifierComputed => exact execVerifierComputed_stepsTo h
  | unlock => exact execUnlock_stepsTo h
  | comparisonEnd => exact execComparisonEnd_stepsTo h
  | lock => exact execLock_stepsTo h
  | freeze => exact execFreeze_stepsTo h
  | recover => exact execRecover_stepsTo h
  | setRecoveryLevel => exact execSetRecoveryLevel_stepsTo h
  | wipe => exact execWipe_stepsTo h
  | putCredential => exact execPutCredential_stepsTo h
  | getCredential => exact execGetCredential_stepsTo h
  | deleteCredential => exact execDeleteCredential_stepsTo h
  | listCredentials => exact execListCredentials_stepsTo h
  | macWithCredential => exact execMacWithCredential_stepsTo h
  | macComplete => exact execMacComplete_stepsTo h
  | readLog => exact execReadLog_stepsTo h
  | writeTakesEffect => exact execWriteTakesEffect_stepsTo h

end Sys2Proof.Machine
end

section
/-! PROOFS. The invariants that actions and incidents keep in passing: the waiting commands, the ring's numbers, the
fuses, tightening, and the host held while it does not run. -/

namespace Sys2Proof.Machine

/-! ## The step -/

/-- A step is an idle second or the command at the front of the queue. -/
theorem step_next {s t : State} (h : step s = .next t) :
    (s.pending = [] ∧ t = s.tick) ∨
      ∃ c rest, s.pending = c :: rest ∧ exec c { s with pending := rest } = .next t := by
  unfold step at h
  split at h
  · cases h
    exact .inl ⟨‹_›, rfl⟩
  · exact .inr ⟨_, _, ‹_›, h⟩

theorem State.tick_eq (s : State) :
    s.tick = s.setSchedule { s.schedule with deadline := s.tick.schedule.deadline } := by
  unfold State.tick
  split <;> rfl

theorem State.keeps_tick (s : State) : s.keeps s.tick [] :=
  s.tick_eq ▸ s.keeps_setSchedule _

/-- What is true whatever commands wait, passes an idle second, and is kept by every command, is kept by every step. -/
theorem step_preserves {P : State → Prop} (hqueue : ∀ s q, P s → P { s with pending := q })
    (htick : ∀ s, P s → P s.tick) (hexec : ∀ c s t, P s → exec c s = .next t → P t)
    {s t : State} (h : P s) (hstep : step s = .next t) : P t := by
  rcases step_next hstep with ⟨-, rfl⟩ | ⟨c, rest, -, hc⟩
  · exact htick s h
  · exact hexec c _ t (hqueue s rest h) hc

/-- No command alters the queue, the ring's numbers, or a fuse but by blowing it. -/
theorem not_alteredBy (c : Instr) :
    .pending ∉ alteredBy c ∧ .log ∉ alteredBy c ∧ .fuses ∉ alteredBy c := by
  cases c <;> simp [alteredBy]

/-! ## The queue (assumption 18) -/

theorem exec_pending {c : Instr} {s t : State} (h : exec c s = .next t) : t.pending = s.pending := by
  obtain ⟨hp, -, -⟩ := not_alteredBy c
  rcases exec_stepsTo h with k | ⟨u, cause, rfl | rfl, k⟩ <;> exact k _ hp

/-- Settles O2: no command alters the queue, and the idle step is the deadline's. -/
theorem queueAndIdleStep : Obligations.QueueAndIdleStep := by
  refine ⟨fun c s t h => exec_pending h, fun s hq => ⟨s.tick, by simp [step, hq], ?_, ?_, ?_, ?_⟩⟩
  · rw [s.tick_eq]
    simp [State.onlyChanges_iff]
  · conv_lhs => rw [s.tick_eq]
    rfl
  · intro hstopped
    simp [State.tick, hstopped]
  · intro n halive hrunning
    simp [State.tick, halive, hrunning]

/-! ## The ring's numbers -/

/-- A start clears the log or keeps its ring and sequence counter (R187). -/
theorem numbered_volatileAtStart {s : State} (h : s.log.numbered) (cause : Cause) :
    (s.volatileAtStart cause).log.numbered := by
  have hcleared : IncidentLog.start.numbered := ⟨by decide, by decide, rfl⟩
  cases cause with
  | coldPower | coldPin => exact hcleared
  | warmRequest | warmSchedule | warmDeadline => exact h

theorem exec_numbered {c : Instr} {s t : State} (hs : s.log.numbered) (h : exec c s = .next t) :
    t.log.numbered := by
  obtain ⟨-, hl, -⟩ := not_alteredBy c
  rcases exec_stepsTo h with k | ⟨u, cause, rfl | rfl, k⟩
  · exact k _ hl hs
  all_goals exact numbered_volatileAtStart (k _ hl hs) cause

/-- Settles O57: an incident numbers its entry next, and a start clears the ring or leaves it. -/
theorem stepKeepsTheRingNumbered : Obligations.StepKeepsTheRingNumbered :=
  fun _ _ => step_preserves (P := fun s => s.log.numbered) (fun _ _ h => h)
    (fun s h => s.keeps_tick .log (by simp) h) (fun _ _ _ => exec_numbered)

/-! ## Fuses -/

theorem exec_grownFrom {c : Instr} {s t : State} (h : exec c s = .next t) : t.fuses.grownFrom s.fuses := by
  obtain ⟨-, -, hf⟩ := not_alteredBy c
  rcases exec_stepsTo h with k | ⟨u, cause, rfl | rfl, k⟩ <;> exact k _ hf

theorem step_grownFrom {s t : State} (h : step s = .next t) : t.fuses.grownFrom s.fuses := by
  rcases step_next h with ⟨-, rfl⟩ | ⟨c, rest, -, hc⟩
  · exact s.keeps_tick .fuses (by simp)
  · exact (exec_grownFrom hc :)

/-! ## Tightening (R45) -/

/-- Outside selection the Region Table is only tightened, or a start has emptied it. -/
theorem exec_tightens {c : Instr} {s t : State} (hs : s.boot.phase ≠ .selecting) (h : exec c s = .next t) :
    s.regions.Tightens t.regions ∨ t.regions = .start := by
  by_cases hr : .regions ∈ alteredBy c
  · cases c <;> simp [alteredBy] at hr
    case manifestCheckComplete copy content =>
      change execManifestCheckComplete copy content s = _ at h
      unfold execManifestCheckComplete at h
      split at h
      · split at h
        · exact absurd ‹_› hs
        · cases h
      · cases h
        exact .inl (.refl _)
  · rcases exec_stepsTo h with k | ⟨u, cause, rfl | rfl, k⟩
    · exact .inl (k _ hr)
    all_goals exact .inr rfl

/-- Settles O33: a record found after a command was there before it, no tighter. -/
theorem tighteningOnlyRises : Obligations.TighteningOnlyRises := by
  intro c s t i r r' hs h hr hr'
  rcases exec_tightens hs h with ht | hstart
  · obtain ⟨q, hq, hrank, heq⟩ := ht.records i r' hr'
    obtain rfl : q = r := Option.some_inj.mp (hq.symm.trans hr)
    exact ⟨hrank, heq⟩
  · simp [hstart, RegionTable.start] at hr'

/-! ## The host held (R89, R91, R105) -/

/-- L0 is asserted, the host's transaction is DENY, and nothing of it is open at the Flash Port. -/
def State.hostHeld (s : State) : Prop :=
  s.lines.l0Asserted = true ∧ (∀ e, s.host.entry = some e → e.cls = .deny)
    ∧ s.port.openTx.forwarded = false

section
variable {s t u : State} {altered : List Field}

theorem State.hostHeld.of_keeps (h : s.hostHeld) (k : s.keeps t altered)
    (hA : .lines ∉ altered ∧ .host ∉ altered ∧ .port ∉ altered) : t.hostHeld := by
  obtain ⟨hl0, hdeny, hopen⟩ := h
  obtain ⟨hl, hh, hp⟩ := hA
  refine ⟨(k _ hl).trans hl0, fun e he => hdeny e ((k _ hh).entry.symm.trans he), ?_⟩
  exact eq_false_of_ne_true fun hf =>
    absurd (OpenTransaction.OpensNothing.forwarded (k _ hp) hf) (by simp [hopen])

theorem State.hostHeld_volatileAtStart (u : State) (cause : Cause) : (u.volatileAtStart cause).hostHeld := by
  refine ⟨rfl, fun e he => ?_, rfl⟩
  simp only [State.volatileAtStart, State.hostAbandoned] at he
  split at he <;> cases he

theorem State.restarts.hostHeld (h : s.restarts t altered) : t.hostHeld := by
  obtain ⟨u, cause, rfl | rfl, -⟩ := h <;> exact u.hostHeld_volatileAtStart cause

theorem State.hostHeld.stepsTo (h : s.hostHeld) (k : s.stepsTo t altered)
    (hA : .lines ∉ altered ∧ .host ∉ altered ∧ .port ∉ altered) : t.hostHeld :=
  k.elim (fun k => h.of_keeps k hA) fun k => k.hostHeld

/-- A step that leaves the phase as it stands keeps the host held, where it keeps the host's three blocks too. -/
theorem State.heldHostSafe.stepsTo (h : s.heldHostSafe) (k : s.stepsTo t altered)
    (hA : .boot ∉ altered ∧ .lines ∉ altered ∧ .host ∉ altered ∧ .port ∉ altered) : t.heldHostSafe := by
  obtain ⟨hb, hA⟩ := hA
  intro hphase
  rcases k with k | k
  · exact State.hostHeld.of_keeps (h fun hs => hphase ((k _ hb).1.trans hs)) k hA
  · exact k.hostHeld

/-- While the host runs there is nothing to hold; a start holds it. -/
theorem heldHostSafe_of_running (hs : s.boot.phase = .running) (k : s.stepsTo t altered)
    (hb : .boot ∉ altered) : t.heldHostSafe := by
  intro hphase
  rcases k with k | k
  · exact absurd ((k _ hb).1.trans hs) hphase
  · exact k.hostHeld

/-- Until the host runs every instruction byte is DENY (R4, R89). -/
theorem State.classify_of_not_running (hs : s.boot.phase ≠ .running) (b : Byte) :
    s.classify b = .startUp := by
  simp [State.classify, hs]

theorem State.heldHostSafe.takeByte (h : s.heldHostSafe) (b : Byte) : (s.takeByte b).heldHostSafe := by
  intro hphase
  obtain ⟨hl0, -, hopen⟩ := h hphase
  refine ⟨hl0, fun e he => ?_, hopen⟩
  cases he
  rw [s.classify_of_not_running hphase]
  rfl

/-- The instruction byte of a class other than DENY is taken while the host runs only. -/
theorem running_of_classify (b : Byte) (h : (s.classify b).cls ≠ .deny) : s.boot.phase = .running := by
  by_contra hs
  exact h (by rw [s.classify_of_not_running hs]; rfl)

/-- An instruction byte answered by an incident alone (R7, R8). -/
theorem heldHostSafe_of_denied {admitted : InstrClass → Bool} {b : Byte} {d : Decision}
    {i : State → Incident} (hs : s.heldHostSafe)
    (h : onInstruction admitted b s (fun u => (logIncident (i u) (u.setDecision d)).result) = .next t) :
    t.heldHostSafe := by
  rcases onInstruction_next h with rfl | ⟨-, -, h⟩
  · exact hs
  · have hbyte : ((s.takeByte b).setDecision d).heldHostSafe := hs.takeByte b
    exact hbyte.stepsTo ((logIncident_flowsTo _ _).of_result h) (by simp)

theorem heldHostSafe_of_unexamined {k : InstrClass} {b : Byte} {held : Decision} (hk : k ≠ .deny)
    (hs : s.heldHostSafe) (h : onInstruction (isClass k) b s (forwardUnexamined held) = .next t) :
    t.heldHostSafe := by
  rcases onInstruction_next h with rfl | ⟨-, hcls, h⟩
  · exact hs
  · have hrunning : s.boot.phase = .running :=
      running_of_classify b (by rw [show (s.classify b).cls = k by simpa [isClass] using hcls]; exact hk)
    exact heldHostSafe_of_running (s := s.takeByte b) hrunning (forwardUnexamined_stepsTo h) (by simp)

/-- An address completes while the host runs only: until then its transaction is DENY. -/
theorem heldHostSafe_of_address {cls : InstrClass} {address : Bytes}
    {decide : ClassEntry → Nat → State → Flow} (hcls : cls ≠ .deny) (hs : s.heldHostSafe)
    (h : onAddress cls address s (fun e a u => (decide e a u).result) = .next t)
    (k : ∀ e a (u : State), u.flowsTo (decide e a u) [.host, .port]) : t.heldHostSafe := by
  rcases onAddress_next h with rfl | ⟨e, -, he, hecls, -, h⟩
  · exact hs
  · have hrunning : s.boot.phase = .running := by
      by_contra hphase
      obtain ⟨-, hdeny, -⟩ := hs hphase
      exact hcls (hecls.symm.trans (hdeny e he))
    exact heldHostSafe_of_running (s := s.addressed e address) hrunning ((k _ _ _).of_result h) (by simp)

/-! ### Begin, end, supply and RESET_N -/

theorem execHostTransactionBegin_heldHostSafe (hs : s.heldHostSafe)
    (h : execHostTransactionBegin s = .next t) : t.heldHostSafe := by
  unfold execHostTransactionBegin at h
  split at h
  · cases h
  · dsimp only at h
    split at h
    · cases h
      exact fun hp => ⟨(hs hp).1, (fun e he => nomatch he), (hs hp).2.2⟩
    · split at h <;> cases h
      · exact fun hp => ⟨(hs hp).1, (fun e he => nomatch he), (hs hp).2.2⟩
      · exact hs

theorem execHostTransactionEnd_heldHostSafe (hs : s.heldHostSafe)
    (h : execHostTransactionEnd s = .next t) : t.heldHostSafe := by
  unfold execHostTransactionEnd at h
  split at h <;> cases h
  refine State.heldHostSafe.stepsTo (fun hp => ?_) (.inl (State.keeps_engineTurn (altered := []) _)) (by simp)
  exact ⟨(hs hp).1, (hs hp).2.1, FlashPort.closeHost_forwarded _⟩

/-- L0 asserted, FCS_N released and no entry held: the host is held whatever the phase. -/
theorem State.hostAbandoned_entry (s : State) : s.hostAbandoned.entry = none := by
  unfold State.hostAbandoned
  split <;> rfl

theorem heldHostSafe_of_released (hl : t.lines.l0Asserted = true) (hh : t.host = u.hostAbandoned)
    (hp : t.port.openTx = .none) : t.heldHostSafe := by
  refine fun _ => ⟨hl, fun e he => ?_, by rw [hp]; rfl⟩
  rw [hh, u.hostAbandoned_entry] at he
  cases he

theorem execSupplyRise_heldHostSafe (h : execSupplyRise s = .next t) : t.heldHostSafe := by
  unfold execSupplyRise at h
  split at h
  · cases h
  · split at h <;> cases h
    · exact heldHostSafe_of_released rfl rfl rfl
    · exact fun _ => State.hostHeld_volatileAtStart _ _

theorem execResetNAssert_heldHostSafe (hs : s.heldHostSafe) (h : execResetNAssert s = .next t) :
    t.heldHostSafe := by
  unfold execResetNAssert at h
  split at h
  · cases h
  · dsimp only at h
    split at h <;> cases h
    · exact heldHostSafe_of_released rfl rfl rfl
    · exact hs

/-! ### The end of a start -/

theorem execManifestCheckComplete_heldHostSafe {copy content : FlashImage} (hs : s.heldHostSafe)
    (h : execManifestCheckComplete copy content s = .next t) : t.heldHostSafe := by
  have hstep := execManifestCheckComplete_stepsTo h
  unfold execManifestCheckComplete at h
  split at h
  · split at h
    · have hheld : s.hostHeld := hs (by rw [‹s.boot.phase = _›]; simp)
      exact fun _ => hheld.stepsTo hstep (by simp)
    · cases h
  · cases h
    exact hs

/-- The host is released (R90). -/
def State.released (s : State) : State :=
  { s.returnPort with
    lines := { s.lines with l0Asserted := false }, boot := { s.boot with phase := .running }, scratch := [] }

theorem finishStart_eq (s : State) :
    finishStart s = (offerSequence .verified (s.setJob .idle)).andThen fun t => .on t.released := rfl

/-- A start ends with the host released from a state that is `s` but for its operation and what actions have done, or
an action has begun another start. -/
theorem finishStart_cases (s : State) :
    (∃ v, (s.setJob .idle).keeps v [] ∧ finishStart s = .on v.released) ∨
      ∃ v, (s.setJob .idle).keeps v [] ∧ finishStart s = .restarted (v.beginStart .warmSchedule) := by
  rw [finishStart_eq]
  rcases offerSequence_flowsTo .verified (s.setJob .idle) with ⟨v, hv, k⟩ | ⟨v, hv, k⟩
  · exact .inl ⟨v, k, by rw [hv]; rfl⟩
  · exact .inr ⟨v, k, by rw [hv]; rfl⟩

theorem finishStart_heldHostSafe (h : (finishStart s).result = .next t) : t.heldHostSafe := by
  rcases finishStart_cases s with ⟨v, -, hv⟩ | ⟨v, -, hv⟩ <;> rw [hv] at h <;> cases h
  · exact fun hp => absurd rfl hp
  · exact fun _ => v.hostHeld_volatileAtStart _

theorem execStartUpEntries_heldHostSafe (hs : s.heldHostSafe) (h : execStartUpEntries s = .next t) :
    t.heldHostSafe := by
  unfold execStartUpEntries at h
  split at h
  · split at h
    · rename_i b _ _ _
      dsimp only at h
      split at h
      · cases h
        refine hs.stepsTo (.inl (((s.keeps_withEntries b).mono ?_).trans
          (((State.keeps_setJob _ _).mono ?_).trans (State.keeps_engineTurn _))))
          (altered := [.stack, .job]) (by simp) <;> simp
      · exact finishStart_heldHostSafe h
    · cases h
  · cases h
    exact hs

theorem markerEffect_heldHostSafe {m : WipeMarker} (hs : s.heldHostSafe)
    (h : (markerEffect m s).result = .next t) : t.heldHostSafe := by
  unfold markerEffect at h
  dsimp only at h
  split at h
  · cases h
    refine hs.stepsTo (.inl (((s.keeps_setStore { s.store with marker := m.advanced } rfl).trans
      (State.keeps_setJob _ _)).trans (State.keeps_engineTurn _))) (altered := [.job]) (by simp)
  · split at h
    · exact finishStart_heldHostSafe h
    · cases h
      exact fun hp => ⟨(hs hp).1, (hs hp).2.1, rfl⟩

theorem writeEffect_heldHostSafe {w : Write} (hs : s.heldHostSafe) (h : writeEffect w s = .next t) :
    t.heldHostSafe := by
  have hstep := writeEffect_stepsTo h
  cases w with
  | bootCount =>
    obtain ⟨hphase, -⟩ := whileSelecting_next h
    have hheld : s.hostHeld := hs (by rw [hphase]; simp)
    exact fun _ => hheld.stepsTo hstep (by simp [alteredByWrite])
  | markerAdvance =>
    simp only [writeEffect] at h
    split at h
    · exact markerEffect_heldHostSafe hs h
    · cases h
  | _ => exact hs.stepsTo hstep (by simp [alteredByWrite])

theorem execWriteTakesEffect_heldHostSafe (hs : s.heldHostSafe) (h : execWriteTakesEffect s = .next t) :
    t.heldHostSafe := by
  unfold execWriteTakesEffect at h
  split at h
  · split at h
    · exact writeEffect_heldHostSafe (s := s.setWrite none) hs h
    · cases h
  · cases h
    exact hs

theorem exec_heldHostSafe {c : Instr} (hs : s.heldHostSafe) (h : exec c s = .next t) : t.heldHostSafe := by
  cases c with
  | deny b =>
    exact heldHostSafe_of_denied (admitted := isClass .deny) (d := .fill)
      (i := fun u => u.hostIncident .instrDenied noRegion Detail.none 0) hs h
  | eraseAll b =>
    exact heldHostSafe_of_denied (admitted := isClass .eraseAll) (d := .refuse)
      (i := fun u => u.hostIncident .writeRefused noRegion Detail.eraseAll 0) hs h
  | instructionByte b =>
    rcases onInstruction_next h with rfl | ⟨-, -, h⟩
    · exact hs
    · cases h
      exact hs.takeByte b
  | pass b | writeEnable b | writeDisable b | statusRead b =>
    exact heldHostSafe_of_unexamined (by simp) hs h
  | read address =>
    exact heldHostSafe_of_address (by simp) hs h fun e a u => (decideRead_decides e a u).flowsTo
  | program address =>
    exact heldHostSafe_of_address (by simp) hs h fun e a u => (decideProgram_decides e a u).flowsTo
  | erase4k address =>
    exact heldHostSafe_of_address (by simp) hs ((execErase4k_eq _ _).symm.trans h)
      fun e a u => (decideErase4k_decides e a u).flowsTo
  | erase32k address =>
    exact heldHostSafe_of_address (by simp) hs h fun e a u => (decideErase_decides _ e a u).flowsTo
  | erase64k address =>
    exact heldHostSafe_of_address (by simp) hs h fun e a u => (decideErase_decides _ e a u).flowsTo
  | hostTransactionBegin => exact execHostTransactionBegin_heldHostSafe hs h
  | hostTransactionEnd => exact execHostTransactionEnd_heldHostSafe hs h
  | supplyRise => exact execSupplyRise_heldHostSafe h
  | resetNAssert => exact execResetNAssert_heldHostSafe hs h
  | manifestCheckComplete copy content => exact execManifestCheckComplete_heldHostSafe hs h
  | startUpEntries => exact execStartUpEntries_heldHostSafe hs h
  | writeTakesEffect => exact execWriteTakesEffect_heldHostSafe hs h
  | _ => exact hs.stepsTo (exec_stepsTo h) (by simp [alteredBy])

end

/-- Settles O55: only START_UP_ENTRIES and the last granule's marker write release the host, and a start holds it. -/
theorem stepKeepsTheHostHeld : Obligations.StepKeepsTheHostHeld :=
  fun _ _ => step_preserves (fun _ _ h => h)
    (fun s h => State.heldHostSafe.stepsTo h (.inl s.keeps_tick) (by simp)) (fun _ _ _ => exec_heldHostSafe)

end Sys2Proof.Machine
end

section
/-! PROOFS. How the part's one operation goes on: the operation and the write in progress before and after a command. -/

namespace Sys2Proof.Machine

/-- A comparison's operation (R162). -/
def Job.compares : Job → Bool
  | .compareOwner _ | .compareRecovery _ _ => true
  | _ => false

/-- A write that a comparison's end begins (R165, R171). -/
def Write.ofComparison : Write → Bool
  | .failedTotal | .wipe _ => true
  | _ => false

theorem State.comparing_iff (s : State) :
    s.comparing = true ↔ s.job.compares = true ∨ ∃ w, s.write = some w ∧ w.ofComparison = true := by
  unfold State.comparing
  split
  · simp [Job.compares, *]
  · simp [Job.compares, *]
  · simp [Write.ofComparison, *]
  · simp [Write.ofComparison, *]
  · rename_i howner hrecovery htotal hwipe
    simp only [Bool.false_eq_true, false_iff, not_or, not_exists, not_and]
    constructor
    · cases hj : s.job <;> simp_all [Job.compares]
    · intro w hw
      cases w <;> simp_all [Write.ofComparison]

/-- The start-up entries that are due are still due, or the start has ended or stopped, or they stand. -/
def State.entriesServed (t : State) : Prop :=
  t.job = .startUpEntries ∨ t.boot.phase = .selecting ∨ t.alive = false ∨
    ∀ i : Fin 8, i.val < 3 → (t.stack.entries.get i).tag = .closed

/-- How the part's one operation goes on from `s` to `t`: it is as it was; or an operation is begun, ended or followed
by another, with no write in progress where one thing was; or a write is begun. -/
inductive State.Progress (s t : State) : Prop
  | same (hj : t.job = s.job) (hw : t.write = s.write)
  | works (hw : t.write = none ∨ (t.write = s.write ∧ s.job ≠ .idle))
      (hc : t.job.compares = true → s.comparing = true ∨ s.cred.state ≠ .lockedOut)
      (he : s.job = .startUpEntries → s.write = none → t.entriesServed)
  | writes (w : Write) (hw : t.write = some w)
      (hj : t.job = .idle ∨ (t.job = s.job ∧ s.write ≠ none))
      (hc : w.ofComparison = true → s.comparing = true ∨ s.cred.state ≠ .lockedOut)
      (hv : ∀ v, w = .confirmSlot v → s.store.slots.legal = true → v.legal = true)
      (he : s.job = .startUpEntries → s.write = none → t.entriesServed)

section
variable {s t u : State} {altered : List Field}

/-! The engine's turn changes the Flash Port alone. -/

@[simp] theorem State.engineTurn_pins (s : State) : s.engineTurn.pins = s.pins := by
  rw [(engineTurn_spec s).1, State.setPort_pins]
@[simp] theorem State.engineTurn_host (s : State) : s.engineTurn.host = s.host := by
  rw [(engineTurn_spec s).1, State.setPort_host]
@[simp] theorem State.engineTurn_classes (s : State) : s.engineTurn.classes = s.classes := by
  rw [(engineTurn_spec s).1, State.setPort_classes]
@[simp] theorem State.engineTurn_regions (s : State) : s.engineTurn.regions = s.regions := by
  rw [(engineTurn_spec s).1, State.setPort_regions]
@[simp] theorem State.engineTurn_window (s : State) : s.engineTurn.window = s.window := by
  rw [(engineTurn_spec s).1, State.setPort_window]
@[simp] theorem State.engineTurn_boot (s : State) : s.engineTurn.boot = s.boot := by
  rw [(engineTurn_spec s).1, State.setPort_boot]
@[simp] theorem State.engineTurn_schedule (s : State) : s.engineTurn.schedule = s.schedule := by
  rw [(engineTurn_spec s).1, State.setPort_schedule]
@[simp] theorem State.engineTurn_lines (s : State) : s.engineTurn.lines = s.lines := by
  rw [(engineTurn_spec s).1, State.setPort_lines]
@[simp] theorem State.engineTurn_stack (s : State) : s.engineTurn.stack = s.stack := by
  rw [(engineTurn_spec s).1, State.setPort_stack]
@[simp] theorem State.engineTurn_flags (s : State) : s.engineTurn.flags = s.flags := by
  rw [(engineTurn_spec s).1, State.setPort_flags]
@[simp] theorem State.engineTurn_quote (s : State) : s.engineTurn.quote = s.quote := by
  rw [(engineTurn_spec s).1, State.setPort_quote]
@[simp] theorem State.engineTurn_session (s : State) : s.engineTurn.session = s.session := by
  rw [(engineTurn_spec s).1, State.setPort_session]
@[simp] theorem State.engineTurn_cred (s : State) : s.engineTurn.cred = s.cred := by
  rw [(engineTurn_spec s).1, State.setPort_cred]
@[simp] theorem State.engineTurn_log (s : State) : s.engineTurn.log = s.log := by
  rw [(engineTurn_spec s).1, State.setPort_log]
@[simp] theorem State.engineTurn_fuses (s : State) : s.engineTurn.fuses = s.fuses := by
  rw [(engineTurn_spec s).1, State.setPort_fuses]
@[simp] theorem State.engineTurn_store (s : State) : s.engineTurn.store = s.store := by
  rw [(engineTurn_spec s).1, State.setPort_store]
@[simp] theorem State.engineTurn_scratch (s : State) : s.engineTurn.scratch = s.scratch := by
  rw [(engineTurn_spec s).1, State.setPort_scratch]
@[simp] theorem State.engineTurn_job (s : State) : s.engineTurn.job = s.job := by
  rw [(engineTurn_spec s).1, State.setPort_job]
@[simp] theorem State.engineTurn_write (s : State) : s.engineTurn.write = s.write := by
  rw [(engineTurn_spec s).1, State.setPort_write]
@[simp] theorem State.engineTurn_pending (s : State) : s.engineTurn.pending = s.pending := by
  rw [(engineTurn_spec s).1, State.setPort_pending]

/-! ## Nothing of the work altered; a start -/

theorem State.Progress.of_restarts {v : State} (h : v.restarts t altered) : s.Progress t := by
  obtain ⟨u, cause, rfl | rfl, -⟩ := h
  · exact .writes .bootCount rfl (.inl rfl) (by simp [Write.ofComparison]) (by simp) fun _ _ => .inr (.inl rfl)
  · exact .works (.inl rfl) (fun h => nomatch h) fun _ _ => .inr (.inl rfl)

theorem State.Progress.of_keeps (k : s.keeps t altered) (hA : .job ∉ altered ∧ .write ∉ altered) :
    s.Progress t :=
  .same (k _ hA.1) (k _ hA.2)

theorem State.Progress.of_stepsTo (k : s.stepsTo t altered) (hA : .job ∉ altered ∧ .write ∉ altered) :
    s.Progress t :=
  k.elim (fun k => .of_keeps k hA) .of_restarts

theorem State.Progress.of_flow {f : Flow} (k : s.flowsTo f []) (h : f.result = .next t) : s.Progress t :=
  .of_stepsTo (k.of_result h) (by simp)

/-- What is in progress, and the store and slots it depends on, may first be passed over. -/
theorem State.Progress.after (k : s.keeps u altered)
    (hA : .job ∉ altered ∧ .write ∉ altered ∧ .cred ∉ altered ∧ .store ∉ altered) (h : u.Progress t) :
    s.Progress t := by
  obtain ⟨hj, hw, hc, hs⟩ := hA
  have hjob := k _ hj
  have hwrite := k _ hw
  have hcomparing : u.comparing = s.comparing := by
    unfold State.comparing
    rw [hjob, hwrite]
  have hlocked : u.cred.state ≠ .lockedOut → s.cred.state ≠ .lockedOut :=
    fun h h' => h ((CredStore.Stands.lockedOut_iff (k _ hc)).mpr h')
  cases h with
  | same hj hw => exact .same (hj.trans hjob) (hw.trans hwrite)
  | works hw hc he =>
    exact .works (by rwa [← hjob, ← hwrite]) (fun h => hcomparing ▸ (hc h).imp_right hlocked)
      (by rwa [← hjob, ← hwrite])
  | writes w hw hj hc hv he =>
    exact .writes w hw (by rwa [← hjob, ← hwrite]) (fun h => hcomparing ▸ (hc h).imp_right hlocked)
      (fun v hv' h => hv v hv' (by rwa [show u.store.slots = s.store.slots from k _ hs]))
      (by rwa [← hjob, ← hwrite])

/-! ## Requests -/

/-- A request is taken while nothing is in progress; what its owner then does is its progress. -/
theorem takeRequest_progress {r : Request} {owner : Bytes → State → Result}
    (h : takeRequest r s owner = .next t)
    (k : ∀ (body : Bytes) (u : State), u.job = .idle → u.write = none → owner body u = .next t →
      u.Progress t) : s.Progress t := by
  rcases takeRequest_next h with ⟨-, rfl⟩ | ⟨hoffers, h⟩
  · exact .same rfl rfl
  · simp [State.offers] at hoffers
    obtain ⟨⟨-, hjob⟩, hwrite⟩ := hoffers
    exact .after (s.keeps_setWindow { s.window with dispatched := none }) (by simp) (k _ _ hjob hwrite h)

/-- An answer leaves the work as it is. -/
theorem respond_progress {status : Status} {body : Bytes}
    (h : (Host.Outcome.next (s.respond status body) : Result) = .next t) : s.Progress t :=
  .of_stepsTo (respond_stepsTo h (altered := [])) (by simp)

/-- From nothing in progress, an operation begins. -/
theorem setJob_progress {j : Job} (hj : s.job = .idle) (hw : s.write = none)
    (hc : j.compares = true → s.cred.state ≠ .lockedOut)
    (h : (Host.Outcome.next (s.setJob j) : Result) = .next t) : s.Progress t := by
  cases h
  exact .works (.inl hw) (fun h => .inr (hc h)) fun he => by rw [hj] at he; cases he

/-- From no operation in progress, a write begins. -/
theorem beginWrite_progress {w : Write} (hj : s.job = .idle)
    (hc : w.ofComparison = true → s.cred.state ≠ .lockedOut)
    (hv : ∀ v, w = .confirmSlot v → s.store.slots.legal = true → v.legal = true)
    (h : (Host.Outcome.next (s.beginWrite w) : Result) = .next t) : s.Progress t := by
  cases h
  exact .writes w rfl (.inl hj) (fun h => .inr (hc h)) hv fun he => by rw [hj] at he; cases he

theorem unlessFrozen_progress {go : Result} (h : unlessFrozen s go = .next t)
    (k : go = .next t → s.Progress t) : s.Progress t := by
  unfold unlessFrozen at h
  split at h
  · exact respond_progress h
  · exact k h

/-- The owner's changes are admitted in UNLOCKED and UNSET, so never in LOCKED_OUT. -/
theorem whereOwned_progress {go : Result} (h : whereOwned s go = .next t)
    (k : s.cred.state ≠ .lockedOut → go = .next t → s.Progress t) : s.Progress t := by
  unfold whereOwned at h
  split at h
  · exact k (by simp [*]) h
  · split at h
    · exact respond_progress h
    · exact k (by simp [*]) h
  · exact respond_progress h
  · exact respond_progress h

theorem refuseStack_progress {status : Status} {detail : Byte} {flag : Flag}
    (h : refuseStack status detail flag s = .next t) : s.Progress t :=
  .of_stepsTo (refuseStack_stepsTo h) (by simp)

theorem execExtend_progress (h : execExtend s = .next t) : s.Progress t :=
  takeRequest_progress h fun _ u hj hw h => by
    split at h
    · exact setJob_progress hj hw (by simp [Job.compares]) h
    · exact refuseStack_progress h

theorem execGetIdentity_progress (h : execGetIdentity s = .next t) : s.Progress t :=
  takeRequest_progress h fun _ _ hj hw h => setJob_progress hj hw (by simp [Job.compares]) h

theorem execQuote_progress (h : execQuote s = .next t) : s.Progress t :=
  takeRequest_progress h fun _ u hj hw h => by
    obtain ⟨b, -, h⟩ := withBooted_next h
    split at h
    · cases h
    · exact .after (u := u.setQuote { u.quote with counter := satInc u.quote.counter }) (altered := [])
        (by simp [State.keeps_iff]) (by simp) (setJob_progress hj hw (by simp [Job.compares]) h)

theorem execStageUpdate_progress (h : execStageUpdate s = .next t) : s.Progress t :=
  takeRequest_progress h fun _ u hj hw h => by
    split at h
    · cases h
      exact .works (.inl (by simpa using hw)) (by simp [Job.compares]) fun he => by rw [hj] at he; cases he
    · exact respond_progress h

theorem execSetOwner_progress (h : execSetOwner s = .next t) : s.Progress t :=
  takeRequest_progress h fun _ u hj hw h => unlessFrozen_progress h fun h => by
    split at h
    · exact setJob_progress hj hw (by simp [Job.compares]) h
    · split at h
      · exact respond_progress h
      · exact setJob_progress hj hw (by simp [Job.compares]) h
    all_goals exact respond_progress h

theorem execUnlock_progress (h : execUnlock s = .next t) : s.Progress t :=
  takeRequest_progress h fun _ u hj hw h => by
    split at h
    case h_4 hlocked => exact setJob_progress hj hw (by simp [hlocked]) h
    all_goals exact respond_progress h

theorem execRecover_progress (h : execRecover s = .next t) : s.Progress t :=
  takeRequest_progress h fun _ u hj hw h => by
    split at h
    · exact respond_progress h
    · refine unlessFrozen_progress h fun h => ?_
      split at h
      · exact respond_progress h
      · rename_i hlocked
        iterate 3
          split at h
          · exact respond_progress h
        exact setJob_progress hj hw (fun _ => hlocked) h

theorem execMacWithCredential_progress (h : execMacWithCredential s = .next t) : s.Progress t :=
  takeRequest_progress h fun body u hj hw h => by
    obtain ⟨b, -, h⟩ := withBooted_next h
    split at h
    · exact respond_progress h
    · split at h
      · exact respond_progress h
      · iterate 2
          split at h
          · exact .of_stepsTo (denyCredential_stepsTo h) (by simp)
        exact setJob_progress hj hw (by simp [Job.compares]) h

theorem execAbortUpdate_progress (h : execAbortUpdate s = .next t) : s.Progress t :=
  takeRequest_progress h fun _ u hj hw h => by
    split at h
    · exact respond_progress h
    · exact .after (u := u.setSession _) (altered := []) (by simp [State.keeps_iff]) (by simp)
        (respond_progress h)
    · exact beginWrite_progress hj (by simp [Write.ofComparison]) (by simp) h
    · cases h

/-- The slot state that a confirm's write gives is legal where the present one is (R73, R157). -/
theorem State.confirmedSlots_legal (s : State) (b : Booted) (h : s.store.slots.legal = true) :
    (s.confirmedSlots b).legal = true := by
  unfold State.confirmedSlots
  split
  · rfl
  · exact h
  · exact h

/-- Where a confirm step leads: the next write is begun, none of the slot state, or the request ends. -/
def State.confirmsTo (s t : State) : Prop :=
  (∃ w : Write, t = s.beginWrite w ∧ w.ofComparison = false ∧ ∀ v, w ≠ .confirmSlot v) ∨ s.stepsTo t []

theorem confirmRevocation_confirmsTo {b : Booted} {c : ConfirmSteps}
    (h : (confirmRevocation b c s).result = .next t) : s.confirmsTo t := by
  unfold confirmRevocation at h
  split at h
  · cases h
    exact .inl ⟨_, rfl, rfl, by simp⟩
  · exact .inr ((finishConfirm_flowsTo c s).of_result h)

theorem confirmEpoch_confirmsTo {b : Booted} {c : ConfirmSteps}
    (h : (confirmEpoch b c s).result = .next t) : s.confirmsTo t := by
  unfold confirmEpoch at h
  split at h
  · cases h
    exact .inl ⟨_, rfl, rfl, by simp⟩
  · exact confirmRevocation_confirmsTo h

theorem execConfirmBoot_progress (h : execConfirmBoot s = .next t) : s.Progress t :=
  takeRequest_progress h fun _ u hj hw h => by
    obtain ⟨b, -, h⟩ := withBooted_next h
    split at h
    · exact respond_progress h
    · unfold confirmSlots at h
      dsimp only at h
      split at h
      · refine beginWrite_progress hj (by simp [Write.ofComparison]) (fun v hv hl => ?_) h
        cases hv
        exact u.confirmedSlots_legal b hl
      · rcases confirmEpoch_confirmsTo h with ⟨w, rfl, hc, hv⟩ | k
        · exact beginWrite_progress hj (by simp [hc]) (fun v hw => absurd hw (hv v)) rfl
        · exact .of_stepsTo k (by simp)

theorem execSetRecoveryLevel_progress (h : execSetRecoveryLevel s = .next t) : s.Progress t :=
  takeRequest_progress h fun _ u hj hw h => by
    split at h
    · exact respond_progress h
    · refine unlessFrozen_progress h fun h => whereOwned_progress h fun _ h => ?_
      split at h
      · exact respond_progress h
      · exact beginWrite_progress hj (by simp [Write.ofComparison]) (by simp) h

theorem execWipe_progress (h : execWipe s = .next t) : s.Progress t :=
  takeRequest_progress h fun _ u hj hw h => unlessFrozen_progress h fun h =>
    whereOwned_progress h fun hopen h => by
      cases h
      exact .writes _ rfl (.inl rfl) (fun _ => .inr hopen) (by simp) fun he => by rw [hj] at he; cases he

theorem execPutCredential_progress (h : execPutCredential s = .next t) : s.Progress t :=
  takeRequest_progress h fun _ u hj hw h => by
    split at h
    · exact respond_progress h
    · exact unlessFrozen_progress h fun h => whereOwned_progress h fun _ h =>
        beginWrite_progress hj (by simp [Write.ofComparison]) (by simp) h

theorem execDeleteCredential_progress (h : execDeleteCredential s = .next t) : s.Progress t :=
  takeRequest_progress h fun _ u hj hw h => by
    split at h
    · exact respond_progress h
    · refine unlessFrozen_progress h fun h => whereOwned_progress h fun _ h => ?_
      split at h
      · exact beginWrite_progress hj (by simp [Write.ofComparison]) (by simp) h
      · exact respond_progress h

/-! ## Completions -/

/-- An operation other than the start-up entries ends. -/
theorem State.Progress.ended {j : Job} (hs : s.job = j) (hidle : j ≠ .idle) (hentries : j ≠ .startUpEntries)
    (hj : t.job = .idle) (hw : t.write = s.write) : s.Progress t :=
  .works (.inr ⟨hw, by rwa [hs]⟩) (by rw [hj]; exact fun h => nomatch h) fun he => absurd (hs.symm.trans he) hentries

/-- An operation other than the start-up entries ends and a write of it begins. -/
theorem State.Progress.wrote {j : Job} {w : Write} (hs : s.job = j) (hentries : j ≠ .startUpEntries)
    (hj : t.job = .idle) (hw : t.write = some w) (hc : w.ofComparison = true → s.comparing = true)
    (hv : ∀ v, w ≠ .confirmSlot v) : s.Progress t :=
  .writes w hw (.inl hj) (fun h => .inl (hc h)) (fun v h => absurd h (hv v))
    fun he => absurd (hs.symm.trans he) hentries

theorem execExtendHashComplete_progress (h : execExtendHashComplete s = .next t) : s.Progress t := by
  unfold execExtendHashComplete at h
  split at h
  · split at h <;> cases h
    exact .ended ‹s.job = _› (by simp) (by simp) rfl rfl
  · cases h
    exact .same rfl rfl

theorem execKeyDerivationComplete_progress (h : execKeyDerivationComplete s = .next t) : s.Progress t := by
  unfold execKeyDerivationComplete at h
  split at h
  · split at h
    · obtain ⟨b, -, h⟩ := withBooted_next h
      cases h
      exact .ended ‹s.job = _› (by simp) (by simp) rfl rfl
    · cases h
  · cases h
    exact .same rfl rfl

theorem execQuoteSigned_progress (h : execQuoteSigned s = .next t) : s.Progress t := by
  unfold execQuoteSigned at h
  split at h
  · split at h <;> cases h
    exact .ended ‹s.job = _› (by simp) (by simp) rfl rfl
  · cases h
    exact .same rfl rfl

theorem execMacComplete_progress (h : execMacComplete s = .next t) : s.Progress t := by
  unfold execMacComplete at h
  split at h
  · split at h <;> cases h
    exact .ended ‹s.job = _› (by simp) (by simp) rfl rfl
  · cases h
    exact .same rfl rfl

theorem execVerifierComputed_progress (h : execVerifierComputed s = .next t) : s.Progress t := by
  unfold execVerifierComputed at h
  split at h
  · split at h <;> cases h
    exact .wrote ‹s.job = _› (by simp) rfl rfl (by simp [Write.ofComparison]) (by simp)
  · cases h
    exact .same rfl rfl

theorem execEngineGranuleErase_progress (h : execEngineGranuleErase s = .next t) : s.Progress t := by
  unfold execEngineGranuleErase at h
  split at h
  · split at h <;> cases h
    exact .wrote ‹s.job = _› (by simp) rfl rfl (by simp [Write.ofComparison]) (by simp)
  · cases h
    exact .same rfl rfl

/-- An operation that has ended with a flow of actions and incidents to follow. -/
theorem State.Progress.ended_flow {j : Job} {f : Flow} (hs : s.job = j) (hidle : j ≠ .idle)
    (hentries : j ≠ .startUpEntries) (hj : u.job = .idle) (hw : u.write = s.write)
    (k : u.flowsTo f altered) (hA : .job ∉ altered ∧ .write ∉ altered) (h : f.result = .next t) :
    s.Progress t := by
  rcases k.of_result h with k | k
  · exact .ended hs hidle hentries ((k _ hA.1).trans hj) ((k _ hA.2).trans hw)
  · exact .of_restarts k

theorem ownerMatched_eq (s : State) :
    ownerMatched s = (offerSequence .unlocked ((s.setJob .idle).setCred
      { s.cred with state := .unlocked })).andThen fun t => .on (t.respond .ok t.attemptsBody) := rfl

theorem execComparisonEnd_progress (h : execComparisonEnd s = .next t) : s.Progress t := by
  unfold execComparisonEnd at h
  split at h
  · split at h
    · rename_i proof hjob
      have hcomparing : s.comparing = true := s.comparing_iff.mpr (.inl (by simp [hjob, Job.compares]))
      split at h
      · rw [ownerMatched_eq] at h
        exact .ended_flow (altered := []) (u := (s.setJob .idle).setCred { s.cred with state := .unlocked }) hjob (by simp) (by simp) rfl rfl
          ((offerSequence_flowsTo _ _).andThen_on fun v => v.keeps_respond _ _) (by simp) h
      · cases h
        exact .wrote hjob (by simp) rfl rfl (fun _ => hcomparing) (by simp)
    · rename_i proof wipe hjob
      have hcomparing : s.comparing = true := s.comparing_iff.mpr (.inl (by simp [hjob, Job.compares]))
      split at h
      · cases h
        unfold recoveryMatched
        split
        · exact .wrote hjob (by simp) rfl rfl (fun _ => hcomparing) (by simp)
        · exact .ended hjob (by simp) (by simp) rfl rfl
      · cases h
        exact .wrote hjob (by simp) rfl rfl (fun _ => hcomparing) (by simp)
    · cases h
  · cases h
    exact .same rfl rfl

theorem execStageCheckComplete_progress {copy content : FlashImage}
    (h : execStageCheckComplete copy content s = .next t) : s.Progress t := by
  unfold execStageCheckComplete at h
  split at h
  · split at h
    · obtain ⟨b, -, h⟩ := withBooted_next h
      dsimp only at h
      split at h
      · cases h
        exact .wrote ‹s.job = _› (by simp) rfl rfl (by simp [Write.ofComparison]) (by simp)
      · exact .ended_flow (u := (s.setJob .idle).setPort { s.port with openTx := .none }) ‹s.job = _›
          (by simp) (by simp) rfl rfl (stageFailed_flowsTo _ _ _ _ _) (by simp) h
    · cases h
  · cases h
    exact .same rfl rfl

/-! ## Selection and the lines -/

/-- Selection has begun a check, with no write in progress, or one of its own writes. -/
def State.selects (t : State) : Prop :=
  ((∃ step, t.job = .selectCheck step) ∧ t.write = none) ∨
    ∃ w, t.write = some w ∧ t.job = .idle ∧ w.ofComparison = false ∧ ∀ v, w ≠ .confirmSlot v

theorem State.selects.progress (h : t.selects) (hs : s.job ≠ .startUpEntries ∨ s.write ≠ none) :
    s.Progress t := by
  have hentries : s.job = .startUpEntries → s.write = none → t.entriesServed := fun hj hw =>
    absurd hs (by simp [hj, hw])
  rcases h with ⟨⟨step, hj⟩, hw⟩ | ⟨w, hw, hj, hc, hv⟩
  · exact .works (.inl hw) (by rw [hj]; exact fun h => nomatch h) hentries
  · exact .writes w hw (.inl hj) (by simp [hc]) (fun v h => absurd h (hv v)) hentries

theorem State.enterOther_work (s : State) : (∃ step, s.enterOther.job = .selectCheck step) ∧
    s.enterOther.write = s.write := by
  unfold State.enterOther
  split <;> exact ⟨⟨_, rfl⟩, rfl⟩

theorem State.enterCommitted_work (s : State) : (∃ step, s.enterCommitted.job = .selectCheck step) ∧
    s.enterCommitted.write = s.write := by
  unfold State.enterCommitted
  split
  · exact s.enterOther_work
  · exact ⟨⟨_, rfl⟩, rfl⟩

/-- Selection begins from nothing in progress with a check or a write. -/
theorem State.beginSelection_selects (hj : s.job = .idle) (hw : s.write = none) (asserted : Bool) :
    (s.beginSelection asserted).selects := by
  unfold State.beginSelection
  split
  · exact .inl ⟨⟨_, rfl⟩, hw⟩
  · split
    · split <;> exact .inr ⟨_, rfl, hj, rfl, by simp⟩
    · obtain ⟨hcheck, hwrite⟩ := s.enterCommitted_work
      exact .inl ⟨hcheck, hwrite.trans hw⟩

theorem State.trySelect_work (s : State) :
    s.trySelect = s ∨ s.job = .idle ∧ s.write = none ∧ s.trySelect.selects := by
  unfold State.trySelect
  split
  · split
    · rename_i h
      obtain ⟨-, hj, hw⟩ := h
      exact .inr ⟨hj, hw, State.beginSelection_selects hj hw _⟩
    · exact .inl rfl
  · exact .inl rfl

theorem State.trySelect_progress (s : State) : s.Progress s.trySelect := by
  rcases s.trySelect_work with h | ⟨hj, -, h⟩
  · exact .same (by rw [h]) (by rw [h])
  · exact h.progress (.inl (by simp [hj]))

theorem settledChange_progress {line : Line} {before : Option Bool} {level : Bool}
    (h : (settledChange line before level s).result = .next t) : s.Progress t := by
  unfold settledChange at h
  split at h
  · exact .of_flow (fireWatch_flowsTo _ s) h
  · cases h
    simp only [Flow.on_state, State.sampleL5]
    split
    · refine .after (u := if level = true then _ else _) (altered := []) ?_ (by simp) (State.trySelect_progress _)
      split <;> simp [State.keeps_iff]
    · exact .same rfl rfl
  · cases h
    exact .same rfl rfl

theorem execLineSettlingExpiry_progress {line : Line} (h : execLineSettlingExpiry line s = .next t) :
    s.Progress t := by
  unfold execLineSettlingExpiry at h
  split at h
  · split at h
    · cases h
    · dsimp only at h
      split at h
      · exact .after (s.keeps_setCtl _ _) (altered := []) (by simp) (settledChange_progress h)
      · cases h
    · dsimp only at h
      split at h
      · exact .after (s.keeps_setL5 _) (altered := []) (by simp) (settledChange_progress h)
      · cases h
  · cases h
    rw [settleWhileHeld_spec]
    exact .same rfl rfl

theorem State.afterRejection_progress {step' : SelectStep} (hs : s.job = .selectCheck step')
    (step : SelectStep) : s.Progress (s.afterRejection step) := by
  have check : ∀ u : State, (∃ next, u.job = .selectCheck next) → u.write = s.write → s.Progress u :=
    fun u ⟨next, hj⟩ hw => .works (.inr ⟨hw, by simp [hs]⟩) (by rw [hj]; exact fun h => nomatch h)
      fun he => absurd (hs.symm.trans he) (by simp)
  cases step with
  | pending slot => exact .wrote hs (by simp) rfl rfl (by simp [Write.ofComparison]) (by simp)
  | committed =>
    obtain ⟨hcheck, hwrite⟩ := (s.reject s.store.slots.committed).enterOther_work
    exact check _ hcheck hwrite
  | other => exact check _ ⟨_, rfl⟩ rfl
  | recovery => exact .ended hs (by simp) (by simp) rfl rfl

theorem execManifestCheckComplete_progress {copy content : FlashImage}
    (h : execManifestCheckComplete copy content s = .next t) : s.Progress t := by
  unfold execManifestCheckComplete at h
  split at h
  · split at h
    · rename_i step hphase hjob
      dsimp only at h
      split at h
      · cases h
        refine .works (.inr ⟨rfl, by simp [hjob]⟩) (fun h => nomatch h) fun he => ?_
        rw [hjob] at he
        cases he
      · rename_i reason region version hfail
        rcases recordRejection_flowsTo (s.checkInput step).address reason region s with
          ⟨v, hv, k⟩ | ⟨v, hv, k⟩ <;> rw [hv] at h <;> cases h
        · exact .after k (by simp)
            (State.afterRejection_progress ((k .job (by simp)).trans hjob) step)
        · exact .of_restarts (v := s) ⟨v, _, .inl rfl, k⟩
    · cases h
  · cases h
    exact .same rfl rfl

/-! ## Start-up entries, ready waits and RESET_N -/

/-- Entries 0 to 2 stand once they are written (R89). -/
theorem State.withEntries_stack (s : State) (b : Booted) : (s.withEntries b).stack = s.startUpStack b := by
  unfold State.withEntries State.raiseVerdictFlag
  split <;> rfl

theorem State.startUpStack_closed (s : State) (b : Booted) (i : Fin 8) (hi : i.val < 3) :
    ((s.startUpStack b).entries.get i).tag = .closed := by
  match i, hi with
  | 0, _ | 1, _ | 2, _ => rfl

/-- The end of start-up ends its operation and leaves the stack, or an action has begun another start. -/
theorem finishStart_work (h : (finishStart s).result = .next t) :
    (t.job = .idle ∧ t.write = s.write ∧ t.stack = s.stack) ∨ s.restarts t [.job] := by
  rcases finishStart_cases s with ⟨v, k, hv⟩ | ⟨v, k, hv⟩ <;> rw [hv] at h <;> cases h
  · exact .inl ⟨k .job (by simp), k .write (by simp), k .stack (by simp)⟩
  · exact .inr ⟨v, _, .inl rfl, (s.keeps_setJob _).trans (k.mono (by simp))⟩

theorem execStartUpEntries_progress (h : execStartUpEntries s = .next t) : s.Progress t := by
  unfold execStartUpEntries at h
  split at h
  · split at h
    · rename_i b _ hjob _
      have hclosed := fun (u : State) (hu : u.stack = (s.withEntries b).stack) i hi =>
        show (u.stack.entries.get i).tag = .closed by
          rw [hu, s.withEntries_stack]
          exact s.startUpStack_closed b i hi
      have hwrite : (s.withEntries b).write = s.write := s.keeps_withEntries b .write (by simp)
      dsimp only at h
      split at h
      · cases h
        exact .works (.inr ⟨by simpa using hwrite, by simp [hjob]⟩) (by simp [Job.compares])
          fun _ _ => .inr (.inr (.inr (hclosed _ (by simp))))
      · rcases finishStart_work h with ⟨hj, hw, hstack⟩ | k
        · exact .works (.inr ⟨hw.trans hwrite, by simp [hjob]⟩) (by rw [hj]; exact fun h => nomatch h)
            fun _ _ => .inr (.inr (.inr (hclosed _ hstack)))
        · exact .of_restarts k
    · cases h
  · cases h
    exact .same rfl rfl

/-- One engine operation is followed by another. -/
theorem State.Progress.followed {j : Job} (hs : s.job = j) (hidle : j ≠ .idle) (hentries : j ≠ .startUpEntries)
    (hj : t.job.compares = false) (hw : t.write = s.write) : s.Progress t :=
  .works (.inr ⟨hw, by rwa [hs]⟩) (by simp [hj]) fun he => absurd (hs.symm.trans he) hentries

theorem readyWaitDone_progress (h : readyWaitDone s = .next t) : s.Progress t := by
  unfold readyWaitDone at h
  split at h
  · rename_i hjob
    cases h
    rcases ((s.setJob .idle).setPort { s.port with openTx := .none }).trySelect_work with h | ⟨-, -, h⟩
    · exact .ended hjob (by simp) (by simp) (by rw [h]; rfl) (by rw [h]; rfl)
    · exact h.progress (.inl (by simp [hjob]))
  · obtain ⟨b, -, h⟩ := withBooted_next h
    cases h
    exact .followed ‹s.job = _› (by simp) (by simp) rfl rfl
  · split at h <;> cases h
    exact .followed ‹s.job = _› (by simp) (by simp) rfl rfl
  · cases h
    exact .followed ‹s.job = _› (by simp) (by simp) rfl rfl
  · cases h

theorem execReadyWaitPoll_progress {status : Byte} (h : execReadyWaitPoll status s = .next t) :
    s.Progress t := by
  unfold execReadyWaitPoll at h
  split at h
  · split at h
    iterate 2
      split at h
      · cases h
        exact .of_keeps s.keeps_pollAgain (by simp)
      · exact readyWaitDone_progress h
    all_goals cases h
  · cases h
    exact .same rfl rfl

theorem execResetNAssert_progress (h : execResetNAssert s = .next t) : s.Progress t := by
  unfold execResetNAssert at h
  split at h
  · cases h
  · dsimp only at h
    split at h <;> cases h
    · exact .works (.inl rfl) (fun h => nomatch h) fun _ _ =>
        .inr (.inr (.inl (by simp [State.alive, State.heldByReset])))
    · exact .same rfl rfl

/-! ## Writes -/

section
variable {w : Write} (hs : s.write = some w)
include hs

/-- A write has taken effect, and its operation has ended, goes on, or begins its next part. -/
theorem State.Progress.made (hw : t.write = none) (hj : t.job = s.job ∨ t.job.compares = false) :
    s.Progress t := by
  refine .works (.inl hw) (fun hc => ?_) fun _ h => by simp [hs] at h
  rcases hj with hj | hj
  · exact .inl (s.comparing_iff.mpr (.inl (by rwa [← hj])))
  · simp [hj] at hc

/-- A write has taken effect, and the next of its operation is begun. -/
theorem State.Progress.madeNext {w' : Write} (hw : t.write = some w') (hj : t.job = s.job)
    (hc : w'.ofComparison = false) (hv : ∀ v, w' ≠ .confirmSlot v) : s.Progress t :=
  .writes w' hw (.inr ⟨hj, by simp [hs]⟩) (by simp [hc]) (fun v h => absurd h (hv v))
    fun _ h => by simp [hs] at h

/-- A write has taken effect with actions and incidents in its wake. -/
theorem State.Progress.made_stepsTo (k : (s.setWrite none).stepsTo t altered)
    (hA : .job ∉ altered ∧ .write ∉ altered) : s.Progress t := by
  rcases k with k | k
  · exact .made hs (k _ hA.2) (.inl (k _ hA.1))
  · exact .of_restarts k

theorem bootCountEffect_progress : s.Progress (bootCountEffect (s.setWrite none)) := by
  unfold bootCountEffect
  extract_lets r u
  split
  · split
    · exact .made hs (State.engineTurn_write _) (.inr (by simp [Job.compares]))
    · rcases u.trySelect_work with h | ⟨-, -, h⟩
      · exact .made hs (by rw [h]; rfl) (.inl (by rw [h]; rfl))
      · exact h.progress (.inr (by simp [hs]))
  · exact .made hs rfl (.inr rfl)

theorem revertCountEffect_progress {slot : Slot} {expired : Bool}
    (h : (revertCountEffect slot expired (s.setWrite none)).result = .next t) : s.Progress t := by
  unfold revertCountEffect at h
  generalize hu : State.raiseFlag _ _ = u at h
  have hflow : u.flowsTo (logExpired slot expired u) [] := by
    unfold logExpired
    split
    · exact logIncident_flowsTo _ _
    · exact .on (.refl u _)
  rcases hflow with ⟨v, hv, k⟩ | ⟨v, hv, k⟩ <;> rw [hv] at h <;> cases h
  · obtain ⟨hcheck, hwrite⟩ := v.enterCommitted_work
    have hv : v.write = none := (k .write (by simp)).trans (by rw [← hu]; rfl)
    exact State.selects.progress (.inl ⟨hcheck, hwrite.trans hv⟩) (.inr (by simp [hs]))
  · exact .of_restarts (v := u) ⟨v, _, .inl rfl, k⟩

/-- A confirm write has taken effect, and its request goes on. -/
theorem State.Progress.confirmed (hk : (s.setWrite none).keeps u altered)
    (hA : .job ∉ altered ∧ .write ∉ altered) (h : u.confirmsTo t) : s.Progress t := by
  obtain ⟨hj, hw⟩ := hA
  rcases h with ⟨w', rfl, hc, hv⟩ | k
  · exact .madeNext hs rfl (hk _ hj) hc hv
  · exact .made_stepsTo hs (.of_keeps hk (k.mono (by simp))) ⟨hj, hw⟩

theorem markerEffect_progress {m : WipeMarker} (h : (markerEffect m (s.setWrite none)).result = .next t) :
    s.Progress t := by
  unfold markerEffect at h
  extract_lets r u at h
  split at h
  · cases h
    exact .made hs (State.engineTurn_write _) (.inr (by simp [Job.compares]))
  · split at h
    · rcases finishStart_work h with ⟨hj, hw, -⟩ | k
      · exact .made hs hw (.inr (by rw [hj]; rfl))
      · exact .of_restarts k
    · cases h
      exact .made hs rfl (.inl rfl)

theorem wipeEffect_progress (spans : List Span) : s.Progress (wipeEffect spans (s.setWrite none)) := by
  unfold wipeEffect
  dsimp only
  split
  · exact .made hs rfl (.inl rfl)
  · exact .made hs (State.engineTurn_write _) (.inr (by simp [Job.compares]))

theorem writeEffect_progress (h : writeEffect w (s.setWrite none) = .next t) : s.Progress t := by
  have hstep := writeEffect_stepsTo h
  cases w with
  | bootCount =>
    obtain ⟨-, h⟩ := whileSelecting_next h
    cases h
    exact bootCountEffect_progress hs
  | trialDecrement slot =>
    obtain ⟨-, h⟩ := whileSelecting_next h
    cases h
    exact .made hs rfl (.inr rfl)
  | pendingCleared slot expired =>
    obtain ⟨-, h⟩ := whileSelecting_next h
    cases h
    exact .madeNext hs rfl rfl rfl (by simp)
  | revertCount slot expired =>
    obtain ⟨-, h⟩ := whileSelecting_next h
    exact revertCountEffect_progress hs h
  | confirmSlot v =>
    obtain ⟨b, -, h⟩ := withBooted_next h
    exact .confirmed hs (State.keeps_setSlots _ v) (by simp) (confirmEpoch_confirmsTo h)
  | confirmEpoch c =>
    obtain ⟨b, -, h⟩ := withBooted_next h
    exact .confirmed hs (altered := []) (State.keeps_setFuses _ (Fuses.grownFrom_blow _ _)) (by simp)
      (confirmRevocation_confirmsTo h)
  | wipe spans =>
    cases h
    exact wipeEffect_progress hs spans
  | markerAdvance =>
    simp only [writeEffect] at h
    split at h
    · exact markerEffect_progress hs h
    · cases h
  | _ => exact .made_stepsTo hs hstep (by simp [alteredByWrite])

end

theorem execWriteTakesEffect_progress (h : execWriteTakesEffect s = .next t) : s.Progress t := by
  unfold execWriteTakesEffect at h
  split at h
  · split at h
    · exact writeEffect_progress ‹_› h
    · cases h
  · cases h
    exact .same rfl rfl

/-- The part's one operation goes on in one of these ways at every command. -/
theorem exec_progress {c : Instr} (h : exec c s = .next t) : s.Progress t := by
  cases c with
  | extend => exact execExtend_progress h
  | getIdentity => exact execGetIdentity_progress h
  | quote => exact execQuote_progress h
  | stageUpdate => exact execStageUpdate_progress h
  | setOwner => exact execSetOwner_progress h
  | unlock => exact execUnlock_progress h
  | recover => exact execRecover_progress h
  | macWithCredential => exact execMacWithCredential_progress h
  | abortUpdate => exact execAbortUpdate_progress h
  | confirmBoot => exact execConfirmBoot_progress h
  | setRecoveryLevel => exact execSetRecoveryLevel_progress h
  | wipe => exact execWipe_progress h
  | putCredential => exact execPutCredential_progress h
  | deleteCredential => exact execDeleteCredential_progress h
  | extendHashComplete => exact execExtendHashComplete_progress h
  | keyDerivationComplete => exact execKeyDerivationComplete_progress h
  | quoteSigned => exact execQuoteSigned_progress h
  | macComplete => exact execMacComplete_progress h
  | verifierComputed => exact execVerifierComputed_progress h
  | engineGranuleErase => exact execEngineGranuleErase_progress h
  | comparisonEnd => exact execComparisonEnd_progress h
  | stageCheckComplete copy content => exact execStageCheckComplete_progress h
  | lineSettlingExpiry line => exact execLineSettlingExpiry_progress h
  | manifestCheckComplete copy content => exact execManifestCheckComplete_progress h
  | startUpEntries => exact execStartUpEntries_progress h
  | readyWaitPoll status => exact execReadyWaitPoll_progress h
  | resetNAssert => exact execResetNAssert_progress h
  | writeTakesEffect => exact execWriteTakesEffect_progress h
  | _ => exact .of_stepsTo (exec_stepsTo h) (by simp [alteredBy])

end

end Sys2Proof.Machine
end

section
/-! PROOFS. The invariants that the part's one operation carries: the lockout, the slot state and the stack's shape. -/

namespace Sys2Proof.Machine

section
variable {s t u : State} {altered : List Field}

/-! ## What the progress of the operation carries -/

/-- The part goes on doing one thing at a time. -/
theorem State.Progress.oneAtATime (p : s.Progress t) (h : s.job = .idle ∨ s.write = none) :
    t.job = .idle ∨ t.write = none := by
  cases p with
  | same hj hw => rwa [hj, hw]
  | works hw _ _ =>
    rcases hw with hw | ⟨hw, hj⟩
    · exact .inr hw
    · exact .inr (hw.trans (h.resolve_left hj))
  | writes w _ hj _ _ _ =>
    rcases hj with hj | ⟨hj, hw⟩
    · exact .inl hj
    · exact .inl (hj.trans (h.resolve_right hw))

/-- A comparison in progress was in progress before, or has begun outside LOCKED_OUT. -/
theorem State.Progress.comparing (p : s.Progress t) (h : t.comparing = true) :
    s.comparing = true ∨ s.cred.state ≠ .lockedOut := by
  have hjob : t.job = s.job → t.job.compares = true → s.comparing = true := fun hj hc =>
    s.comparing_iff.mpr (.inl (hj ▸ hc))
  cases p with
  | same hj hw =>
    refine .inl (s.comparing_iff.mpr ?_)
    rwa [← hj, ← hw, ← t.comparing_iff]
  | works hw hc _ =>
    rcases t.comparing_iff.mp h with h | ⟨w, hw', hcw⟩
    · exact hc h
    · rcases hw with hw | ⟨hw, -⟩
      · rw [hw] at hw'
        cases hw'
      · exact .inl (s.comparing_iff.mpr (.inr ⟨w, hw ▸ hw', hcw⟩))
  | writes w hw hj hc _ _ =>
    rcases t.comparing_iff.mp h with h | ⟨w', hw', hcw⟩
    · rcases hj with hj | ⟨hj, -⟩
      · rw [hj] at h
        cases h
      · exact .inl (hjob hj h)
    · obtain rfl : w = w' := Option.some_inj.mp (hw.symm.trans hw')
      exact hc hcw

/-- A slot state in a write that was not in progress is legal where the present one is. -/
theorem State.Progress.confirmSlot (p : s.Progress t) (h : s.slotsLegal) {v : SlotState}
    (hw : t.write = some (.confirmSlot v)) : v.legal = true := by
  obtain ⟨hslots, hwrite⟩ := h
  cases p with
  | same _ hw' => exact hwrite v (hw'.symm.trans hw)
  | works hw' _ _ =>
    rcases hw' with hw' | ⟨hw', -⟩
    · rw [hw'] at hw
      cases hw
    · exact hwrite v (hw'.symm.trans hw)
  | writes w hw' _ _ hv _ => exact hv v (Option.some_inj.mp (hw'.symm.trans hw)) hslots

/-! ## The lockout (R165) -/

/-- Attempts used never exceed 5, and the store is LOCKED_OUT exactly when they are 5. -/
def CredStore.exact (c : CredStore) : Prop :=
  c.attempts ≤ 5 ∧ (c.state = .lockedOut ↔ c.attempts = 5)

theorem CredStore.exact.of_stands {c d : CredStore} (h : c.exact) (k : c.Stands d) : d.exact := by
  obtain ⟨hle, hiff⟩ := h
  exact ⟨k.attempts ▸ hle, by rw [k.lockedOut_iff, k.attempts, hiff]⟩

/-- Outside LOCKED_OUT fewer than five attempts are used, whatever the store state becomes. -/
theorem CredStore.exact.unlockedOut {c : CredStore} (h : c.exact) (hc : c.state ≠ .lockedOut) {x : StoreState}
    (hx : x ≠ .lockedOut) : CredStore.exact { c with state := x } :=
  ⟨h.1, iff_of_false hx fun k => hc (h.2.mpr k)⟩

theorem State.lockoutExact.progress (h : s.lockoutExact) (p : s.Progress t) (hc : t.cred.exact)
    (hl : t.comparing = true → s.cred.state ≠ .lockedOut → t.cred.state ≠ .lockedOut) : t.lockoutExact := by
  obtain ⟨-, -, hone, hcomparing⟩ := h
  obtain ⟨hle, hiff⟩ := hc
  exact ⟨hle, hiff, p.oneAtATime hone, fun k => hl k ((p.comparing k).elim hcomparing id)⟩

theorem startStoreState_ne_lockedOut (r : RecordStore) : startStoreState r ≠ .lockedOut := by
  unfold startStoreState
  split <;> simp

theorem State.restarts.lockoutExact (h : s.restarts t altered) : t.lockoutExact := by
  have hexact : ∀ u : State, CredStore.exact { state := startStoreState u.store, attempts := 0, frozen := false } :=
    fun u => ⟨Nat.zero_le 5, by simp [startStoreState_ne_lockedOut]⟩
  obtain ⟨u, cause, rfl | rfl, -⟩ := h
  all_goals exact ⟨(hexact u).1, (hexact u).2, .inl rfl, fun _ => startStoreState_ne_lockedOut u.store⟩

theorem State.lockoutExact.stepsTo (h : s.lockoutExact) (p : s.Progress t) (k : s.stepsTo t altered)
    (hA : .cred ∉ altered) : t.lockoutExact := by
  rcases k with k | k
  · have hstands : s.cred.Stands t.cred := k _ hA
    exact h.progress p (CredStore.exact.of_stands ⟨h.1, h.2.1⟩ hstands) fun _ => mt hstands.lockedOut_iff.mp
  · exact k.lockoutExact

/-- A matching code proof leaves the store as it was, or unlocks it (R169). -/
theorem recoveryMatched_cred (wipe : Bool) (s : State) :
    (recoveryMatched wipe s).cred = s.cred ∨
      (recoveryMatched wipe s).cred = { s.cred with state := .unlocked } := by
  unfold recoveryMatched
  split
  · exact .inl rfl
  · simp only [State.respond_cred, State.setCred_cred, CredStore.recovered]
    split
    · exact .inr rfl
    · exact .inl rfl

theorem execComparisonEnd_lockoutExact (hs : s.lockoutExact) (h : execComparisonEnd s = .next t) :
    t.lockoutExact := by
  have p := execComparisonEnd_progress h
  have hexact : s.cred.exact := ⟨hs.1, hs.2.1⟩
  have hcomparing : s.job.compares = true → s.cred.state ≠ .lockedOut := fun hc =>
    hs.2.2.2 (s.comparing_iff.mpr (.inl hc))
  unfold execComparisonEnd at h
  split at h
  · split at h
    · rename_i proof hjob
      have hopen := hcomparing (by rw [hjob]; rfl)
      split at h
      · rw [ownerMatched_eq] at h
        rcases State.flowsTo.of_result ((offerSequence_flowsTo .unlocked _).andThen_on
          fun v => v.keeps_respond _ _) h with k | k
        · have hstands := k .cred (by simp)
          exact hs.progress p ((hexact.unlockedOut hopen (by simp)).of_stands hstands)
            fun _ _ => mt hstands.lockedOut_iff.mp (by simp)
        · exact k.lockoutExact
      · cases h
        exact hs.progress p hexact fun _ => id
    · rename_i proof wipe hjob
      have hopen := hcomparing (by rw [hjob]; rfl)
      split at h
      · cases h
        rcases recoveryMatched_cred wipe s with hc | hc
        · exact hs.progress p (hc ▸ hexact) fun _ => by rw [hc]; exact id
        · exact hs.progress p (hc ▸ hexact.unlockedOut hopen (by simp)) fun _ _ => by simp [hc]
      · cases h
        exact hs.progress p hexact fun _ => id
    · cases h
  · cases h
    exact hs

/-- The fifth failed attempt locks the store out, and no earlier one does (R165). -/
theorem failedTotalEffect_exact (hs : s.cred.exact) (hopen : s.cred.state ≠ .lockedOut)
    (h : (failedTotalEffect s).result = .next t) : t.cred.exact ∨ s.restarts t [.cred] := by
  have hbelow : s.cred.attempts < 5 := lt_of_le_of_ne hs.1 fun k => hopen (hs.2.mpr k)
  unfold failedTotalEffect at h
  extract_lets r c u at h
  have hu : u.cred = { s.cred with attempts := s.cred.attempts + 1 } := rfl
  have hsu : s.keeps u [.cred] := by simp [State.keeps_iff, u, r]
  rcases logIncident_flowsTo (unlockFailed u.cred.attempts) u with ⟨v, hv, k⟩ | ⟨v, hv, k⟩ <;> rw [hv] at h
  · have hstands : u.cred.Stands v.cred := k .cred (by simp)
    have hattempts : v.cred.attempts = s.cred.attempts + 1 := by rw [hstands.attempts, hu]
    rw [Flow.on_andThen] at h
    by_cases hfive : v.cred.attempts = 5
    · rw [lockoutIfFive_at hfive] at h
      rcases State.flowsTo.of_result ((fireWatch_flowsTo _ _).andThen_on fun v => v.keeps_respond _ _) h with
        k' | ⟨v', cause, ht, k'⟩
      · exact .inl (CredStore.exact.of_stands (c := { v.cred with state := .lockedOut })
          ⟨hfive.le, iff_of_true rfl hfive⟩ (k' .cred (by simp)))
      · exact .inr ⟨v', cause, ht, hsu.trans ((k.mono (by simp)).trans
          (.trans (by simp [State.keeps_iff]) (k'.mono (by simp))))⟩
    · rw [lockoutIfFive_below hfive] at h
      cases h
      refine .inl ⟨by simp [hattempts]; omega, iff_of_false (mt hstands.lockedOut_iff.mp hopen) hfive⟩
  · cases h
    exact .inr ⟨v, _, .inl rfl, hsu.trans (k.mono (by simp))⟩

theorem wipeEffect_cred (spans : List Span) (s : State) :
    (wipeEffect spans s).cred = { s.cred with state := .unset } := by
  unfold wipeEffect
  dsimp only
  split <;> simp

theorem writeEffect_lockoutExact {w : Write} (hs : s.lockoutExact) (hw : s.write = some w)
    (h : writeEffect w (s.setWrite none) = .next t) : t.lockoutExact := by
  have p := writeEffect_progress hw h
  have hstep := writeEffect_stepsTo h
  have hexact : s.cred.exact := ⟨hs.1, hs.2.1⟩
  have hcomparing : w.ofComparison = true → s.cred.state ≠ .lockedOut := fun hc =>
    hs.2.2.2 (s.comparing_iff.mpr (.inr ⟨w, hw, hc⟩))
  have hidle : s.job = .idle := hs.2.2.1.resolve_right (by simp [hw])
  cases w with
  | failedTotal =>
    rcases failedTotalEffect_exact (s := s.setWrite none) hexact (hcomparing rfl) h with hc | k
    · rcases hstep with k | k
      · have hjob : t.job = .idle := (k .job (by simp [alteredByWrite])).trans hidle
        have hwrite : t.write = none := k .write (by simp [alteredByWrite])
        refine hs.progress p hc fun hcomp => ?_
        simp [t.comparing_iff, hjob, hwrite, Job.compares] at hcomp
      · exact k.lockoutExact
    · exact k.lockoutExact
  | ownerVerifier v =>
    cases h
    have hc : s.cred.owned = s.cred ∨ (s.cred.state ≠ .lockedOut ∧ s.cred.owned = { s.cred with state := .unlocked }) := by
      unfold CredStore.owned
      split
      · exact .inr ⟨by simp [*], rfl⟩
      · exact .inl rfl
    have ht : (ownerVerifierEffect v (s.setWrite none)).cred = s.cred.owned := rfl
    rcases hc with hc | ⟨hopen, hc⟩ <;> rw [hc] at ht
    · exact hs.progress p (ht ▸ hexact) fun _ => by rw [ht]; exact id
    · exact hs.progress p (ht ▸ hexact.unlockedOut hopen (by simp)) fun _ _ => by simp [ht]
  | wipe spans =>
    cases h
    have ht := wipeEffect_cred spans (s.setWrite none)
    exact hs.progress p (ht ▸ hexact.unlockedOut (hcomparing rfl) (by simp)) fun _ _ => by simp [ht]
  | _ =>
    rcases hstep with k | k
    · have hstands : s.cred.Stands t.cred := k .cred (by simp [alteredByWrite])
      exact hs.progress p (hexact.of_stands hstands) fun _ => mt hstands.lockedOut_iff.mp
    · exact k.lockoutExact

theorem execWriteTakesEffect_lockoutExact (hs : s.lockoutExact) (h : execWriteTakesEffect s = .next t) :
    t.lockoutExact := by
  unfold execWriteTakesEffect at h
  split at h
  · split at h
    · exact writeEffect_lockoutExact hs ‹_› h
    · cases h
  · cases h
    exact hs

theorem exec_lockoutExact {c : Instr} (hs : s.lockoutExact) (h : exec c s = .next t) : t.lockoutExact := by
  cases c with
  | comparisonEnd => exact execComparisonEnd_lockoutExact hs h
  | writeTakesEffect => exact execWriteTakesEffect_lockoutExact hs h
  | _ => exact hs.stepsTo (exec_progress h) (exec_stepsTo h) (by simp [alteredBy])

end

/-- Settles O56: the fifth failed attempt alone reaches LOCKED_OUT, no comparison is in progress there, and a start or
a wipe leaves it. -/
theorem stepKeepsLockoutExact : Obligations.StepKeepsLockoutExact :=
  fun _ _ => step_preserves (fun _ _ h => h)
    (fun s h => State.lockoutExact.stepsTo h (.of_keeps s.keeps_tick (by simp)) (.inl s.keeps_tick) (by simp))
    (fun _ _ _ => exec_lockoutExact)

/-! ## The slot state (R73) -/

section
variable {s t : State} {altered : List Field}

/-- A start keeps the slot state, as all that is nonvolatile (R73). -/
theorem State.stepsTo.slots (k : s.stepsTo t altered) (hA : .store ∉ altered) :
    t.store.slots = s.store.slots := by
  rcases k with k | ⟨u, cause, rfl | rfl, k⟩ <;> exact k _ hA

theorem SlotState.cleared_legal (v : SlotState) : v.cleared.legal = true := rfl

/-- One trial less leaves a legal slot state legal (R76). -/
theorem SlotState.legal_decrement {v : SlotState} (h : v.legal = true) :
    SlotState.legal { v with trials := v.trials - 1 } = true := by
  simp only [SlotState.legal, Bool.and_eq_true, Bool.or_eq_true, decide_eq_true_eq] at h ⊢
  obtain ⟨hle, h⟩ := h
  exact ⟨by omega, h.imp_right fun h => by omega⟩

theorem State.slotsLegal.progress (h : s.slotsLegal) (p : s.Progress t) (hslots : t.store.slots.legal = true) :
    t.slotsLegal :=
  ⟨hslots, fun _ hw => p.confirmSlot h hw⟩

theorem State.slotsLegal.stepsTo (h : s.slotsLegal) (p : s.Progress t) (k : s.stepsTo t altered)
    (hA : .store ∉ altered) : t.slotsLegal :=
  h.progress p (k.slots hA ▸ h.1)

theorem writeEffect_slotsLegal {w : Write} (hs : s.slotsLegal) (hw : s.write = some w)
    (h : writeEffect w (s.setWrite none) = .next t) : t.slotsLegal := by
  have hstep := writeEffect_stepsTo h
  refine hs.progress (writeEffect_progress hw h) ?_
  obtain ⟨hslots, hwrite⟩ := hs
  cases w with
  | trialDecrement slot =>
    obtain ⟨-, h⟩ := whileSelecting_next h
    cases h
    exact SlotState.legal_decrement hslots
  | pendingCleared slot expired =>
    obtain ⟨-, h⟩ := whileSelecting_next h
    cases h
    exact SlotState.cleared_legal _
  | pendingSet g =>
    cases h
    rfl
  | abortPending =>
    cases h
    exact SlotState.cleared_legal _
  | confirmSlot v =>
    obtain ⟨b, -, h⟩ := withBooted_next h
    rw [((confirmEpoch_flowsTo b _ ((s.setWrite none).setSlots v)).of_result h).slots (by simp)]
    exact hwrite v hw
  | _ => exact hstep.slots (by simp [alteredByWrite]) ▸ hslots

theorem exec_slotsLegal {c : Instr} (hs : s.slotsLegal) (h : exec c s = .next t) : t.slotsLegal := by
  cases c with
  | writeTakesEffect =>
    change execWriteTakesEffect s = _ at h
    unfold execWriteTakesEffect at h
    split at h
    · split at h
      · exact writeEffect_slotsLegal hs ‹_› h
      · cases h
    · cases h
      exact hs
  | _ => exact hs.stepsTo (exec_progress h) (exec_stepsTo h) (by simp [alteredBy])

end

/-- Settles O58: each slot-state write makes a legal value, and the fuses' two writes only blow bits. -/
theorem stepKeepsTheNonvolatileRecords : Obligations.StepKeepsTheNonvolatileRecords :=
  ⟨fun _ _ => step_preserves (fun _ _ h => h)
    (fun s h => State.slotsLegal.stepsTo h (.of_keeps s.keeps_tick (by simp)) (.inl s.keeps_tick) (by simp))
    (fun _ _ _ => exec_slotsLegal), fun _ _ => step_grownFrom⟩

end Sys2Proof.Machine
end

section
/-! PROOFS. The shape of the Measurement Stack (R110). -/

namespace Sys2Proof.Machine

/-! ## A stack's shape -/

/-- The non-EMPTY entries are those below the top index, and at most the top one is OPEN. -/
def Stack.shaped (k : Stack) : Prop :=
  k.top ≤ 8 ∧ (∀ i : Fin 8, (k.entries.get i).tag ≠ .empty ↔ i.val < k.top) ∧
    ∀ i : Fin 8, (k.entries.get i).tag = .opened → i.val + 1 = k.top

/-- Entries 0 to 2 are CLOSED. -/
def Stack.based (k : Stack) : Prop :=
  ∀ i : Fin 8, i.val < 3 → (k.entries.get i).tag = .closed

section
variable {k : Stack} {n : Nat} {e : MeasEntry}

theorem Stack.write_get (k : Stack) (n : Nat) (e : MeasEntry) (i : Fin 8) :
    (k.write n e).entries.get i = if i.val = n then e else k.entries.get i := by
  simp [Stack.write, Vector.get_eq_getElem, Vector.getElem_setIfInBounds, eq_comm]

/-- The OPEN top entry is the one below the top index. -/
theorem Stack.openTop_spec {i : Nat} (h : k.openTop = some (i, e)) :
    k.top = i + 1 ∧ e.tag = .opened ∧ ∃ hi : i < 8, k.entries.get ⟨i, hi⟩ = e := by
  unfold Stack.openTop at h
  split at h
  · cases h
  · rename_i j htop
    split at h
    · rename_i f hf
      split at h <;> cases h
      obtain ⟨hi, hget⟩ := Vector.getElem?_eq_some_iff.mp hf
      exact ⟨htop, ‹_›, hi, hget⟩
    · cases h

/-- In a shaped stack without an OPEN top entry none is OPEN. -/
theorem Stack.shaped.none_open (h : k.shaped) (ho : k.openTop = none) (i : Fin 8) :
    (k.entries.get i).tag ≠ .opened := by
  obtain ⟨-, -, hopen⟩ := h
  intro hi
  have htop := hopen i hi
  unfold Stack.openTop at ho
  rw [← htop] at ho
  simp only [Vector.getElem?_eq_getElem i.isLt] at ho
  split at ho
  · cases ho
  · rename_i hclosed
    exact hclosed hi

/-- Writing the entry below the top index keeps the shape, unless it empties it. -/
theorem Stack.shaped.write (h : k.shaped) (htop : k.top = n + 1) (he : e.tag ≠ .empty) :
    (k.write n e).shaped := by
  obtain ⟨hle, hempty, hopen⟩ := h
  refine ⟨hle, fun i => ?_, fun i hi => ?_⟩
  · rw [k.write_get]
    split
    · exact iff_of_true he (show i.val < k.top by omega)
    · exact hempty i
  · rw [k.write_get] at hi
    split at hi
    · exact (congrArg (· + 1) ‹i.val = n›).trans htop.symm
    · exact hopen i hi

/-- Opening the entry at the top index of a stack with none OPEN keeps the shape (R115). -/
theorem Stack.shaped.push (h : k.shaped) (ho : k.openTop = none) (htop : k.top < 8) (label : Bytes) :
    (k.push label).shaped := by
  have hnone := h.none_open ho
  obtain ⟨-, hempty, -⟩ := h
  have hget : ∀ i : Fin 8, (k.push label).entries.get i
      = if i.val = k.top then .newlyOpened label else k.entries.get i := k.write_get _ _
  refine ⟨htop, fun i => ?_, fun i hi => ?_⟩
  · rw [hget]
    split
    · exact iff_of_true (by simp [MeasEntry.newlyOpened]) (show i.val < k.top + 1 by omega)
    · exact (hempty i).trans (show i.val < k.top ↔ i.val < k.top + 1 by omega)
  · rw [hget] at hi
    split at hi
    · exact congrArg (· + 1) ‹i.val = k.top›
    · exact absurd hi (hnone i)

theorem Stack.based.write (h : k.based) (hn : 3 ≤ n ∨ e.tag = .closed) : (k.write n e).based := by
  intro i hi
  rw [k.write_get]
  split
  · exact hn.resolve_left (by omega)
  · exact h i hi

/-- A shaped stack whose entries 0 to 2 are CLOSED has its top index above them. -/
theorem Stack.shaped.three_le_top (h : k.shaped) (hb : k.based) : 3 ≤ k.top := by
  obtain ⟨-, hempty, -⟩ := h
  exact (hempty 2).mp (by simp [hb 2 (by decide)])

end

theorem Stack.start_shaped : Stack.start.shaped :=
  ⟨by decide, by decide, by decide⟩

/-- Entries 0 to 2 as a start writes them have the shape (R111 to R113). -/
theorem State.startUpStack_shaped (s : State) (b : Booted) : (s.startUpStack b).shaped := by
  refine ⟨(by decide : 3 ≤ 8), fun i => ?_, fun i hi => ?_⟩
  · change _ ↔ i.val < 3
    match i with
    | 0 | 1 | 2 => exact iff_of_true nofun (by decide)
    | 3 | 4 | 5 | 6 | 7 => exact iff_of_false (not_not.mpr rfl) (by decide)
  · match i with
    | 0 | 1 | 2 | 3 | 4 | 5 | 6 | 7 => cases hi

/-! ## The invariant -/

section
variable {s t u : State} {altered : List Field}

theorem State.stackShaped_iff (s : State) : s.stackShaped ↔
    s.stack.shaped ∧ (s.job = .idle ∨ s.write = none) ∧
      (s.alive = true → s.boot.phase = .completing ∨ s.boot.phase = .running →
        (s.boot.phase = .completing ∧ s.job = .startUpEntries) ∨ s.stack.based) := by
  unfold State.stackShaped Stack.shaped
  exact ⟨fun ⟨h1, h2, h3, h4, h5⟩ => ⟨⟨h1, h2, h3⟩, h4, h5⟩, fun ⟨⟨h1, h2, h3⟩, h4, h5⟩ => ⟨h1, h2, h3, h4, h5⟩⟩

/-- The start-up entries that are due stay due, or stand once a later phase is reached. -/
theorem State.Progress.entries (p : s.Progress t) (hone : s.job = .idle ∨ s.write = none)
    (hjob : s.job = .startUpEntries) : t.entriesServed := by
  have hwrite : s.write = none := hone.resolve_left (by simp [hjob])
  cases p with
  | same hj _ => exact .inl (hj.trans hjob)
  | works _ _ he => exact he hjob hwrite
  | writes _ _ _ _ _ he => exact he hjob hwrite

/-- A step that leaves the phase keeps the shape where the stack's own change does. -/
theorem State.stackShaped.progress (h : s.stackShaped) (p : s.Progress t)
    (halive : t.alive = true → s.alive = true) (hphase : t.boot.phase = s.boot.phase)
    (hshape : t.stack.shaped) (hbased : s.stack.based → t.stack.based) : t.stackShaped := by
  obtain ⟨-, hone, hentries⟩ := s.stackShaped_iff.mp h
  refine t.stackShaped_iff.mpr ⟨hshape, p.oneAtATime hone, fun hta hlate => ?_⟩
  rw [hphase] at hlate ⊢
  rcases hentries (halive hta) hlate with ⟨hcompleting, hjob⟩ | hb
  · rcases p.entries hone hjob with hj | hp | ha | hb
    · exact .inl ⟨hcompleting, hj⟩
    · rw [hphase, hcompleting] at hp
      cases hp
    · simp [ha] at hta
    · exact .inr hb
  · exact .inr (hbased hb)

/-- Outside the phases that the entries stand in the shape is all there is. -/
theorem State.stackShaped.early (h : s.stackShaped) (p : s.Progress t) (hshape : t.stack.shaped)
    (hphase : t.boot.phase ≠ .completing ∧ t.boot.phase ≠ .running) : t.stackShaped := by
  obtain ⟨-, hone, -⟩ := s.stackShaped_iff.mp h
  obtain ⟨hcompleting, hrunning⟩ := hphase
  exact t.stackShaped_iff.mpr ⟨hshape, p.oneAtATime hone, fun _ hlate => absurd hlate (by simp [*])⟩

theorem State.restarts.stackShaped (h : s.restarts t altered) : t.stackShaped := by
  obtain ⟨u, cause, rfl | rfl, -⟩ := h <;>
    exact (State.stackShaped_iff _).mpr ⟨Stack.start_shaped, .inl rfl, fun _ hlate => by
      rcases hlate with hlate | hlate <;> cases hlate⟩

theorem State.stackShaped.keeps (h : s.stackShaped) (p : s.Progress t) (k : s.keeps t altered)
    (hA : .stack ∉ altered ∧ .boot ∉ altered) (halive : t.alive = true → s.alive = true) : t.stackShaped := by
  have hstack : t.stack = s.stack := k _ hA.1
  exact h.progress p halive (k _ hA.2).1 (hstack ▸ (s.stackShaped_iff.mp h).1) (hstack ▸ id)

theorem State.alive_of_pins (h : t.pins = s.pins) : t.alive = true → s.alive = true := by
  unfold State.alive
  rw [h]
  exact id

/-- A step that keeps stack and phase keeps the shape, where the part comes alive by a start alone. -/
theorem State.stackShaped.stepsTo (h : s.stackShaped) (p : s.Progress t) (k : s.stepsTo t altered)
    (hA : .stack ∉ altered ∧ .boot ∉ altered)
    (hwakes : t.alive = true → s.alive = true ∨ s.restarts t altered) : t.stackShaped := by
  rcases k with k | k
  · by_cases hstart : s.restarts t altered
    · exact hstart.stackShaped
    · exact h.keeps p k hA fun ha => (hwakes ha).resolve_right hstart
  · exact k.stackShaped

/-! ## Requests of the stack -/

/-- What an OPEN_STAGE does to the stack: nothing, or it opens the next entry, or folds into entry 7; or a start. -/
theorem execOpenStage_stack (h : execOpenStage s = .next t) :
    t.stack = s.stack ∨ (∃ label, s.stack.openTop = none ∧ s.stack.top < 8 ∧ t.stack = s.stack.push label) ∨
      (∃ label, ¬s.stack.top < 8 ∧ t.stack = s.stack.fold label) ∨ s.restarts t [] := by
  rcases takeRequest_next h with ⟨-, rfl⟩ | ⟨-, h⟩
  · exact .inl rfl
  · obtain ⟨b, -, h⟩ := withBooted_next h
    have hrefuse : ∀ {status detail flag},
        refuseStack status detail flag (s.setWindow { s.window with dispatched := none }) = .next t →
        t.stack = s.stack ∨ s.restarts t [] := fun h => by
      rcases refuseStack_stepsTo h with k | ⟨v, cause, ht, k⟩
      · exact .inl (k .stack (by simp))
      · exact .inr ⟨v, cause, ht, (s.keeps_setWindow _).trans k⟩
    split at h
    · exact (hrefuse h).elim .inl fun k => .inr (.inr (.inr k))
    · rename_i hopen
      split at h
      · cases h
        exact .inr (.inl ⟨_, by simpa using hopen, ‹_›, rfl⟩)
      · split at h
        · cases h
          exact .inr (.inr (.inl ⟨_, ‹_›, rfl⟩))
        · exact (hrefuse h).elim .inl fun k => .inr (.inr (.inr k))

theorem execOpenStage_stackShaped (hs : s.stackShaped) (h : execOpenStage s = .next t) : t.stackShaped := by
  have hshape := (s.stackShaped_iff.mp hs).1
  have p : s.Progress t := .of_stepsTo (execOpenStage_stepsTo h) (by simp)
  rcases execOpenStage_stepsTo h with k | k
  · have hstep : t.stack.shaped → (s.stack.based → t.stack.based) → t.stackShaped :=
      hs.progress p (State.alive_of_pins (k .pins (by simp))) (k .boot (by simp)).1
    rcases execOpenStage_stack h with hstack | ⟨label, hopen, htop, hstack⟩ | ⟨label, htop, hstack⟩ | k
    · rw [hstack] at hstep
      exact hstep hshape id
    · rw [hstack] at hstep
      exact hstep (hshape.push hopen htop label) fun hb =>
        Stack.based.write hb (.inl (hshape.three_le_top hb))
    · rw [hstack] at hstep
      refine hstep (hshape.write ?_ (by simp)) fun hb => hb.write (.inl (by decide))
      exact le_antisymm hshape.1 (not_lt.mp htop)
    · exact k.stackShaped
  · exact k.stackShaped

theorem execCloseStage_stackShaped (hs : s.stackShaped) (h : execCloseStage s = .next t) : t.stackShaped := by
  have hshape := (s.stackShaped_iff.mp hs).1
  have p : s.Progress t := .of_stepsTo (execCloseStage_stepsTo h) (by simp)
  rcases takeRequest_next h with ⟨-, rfl⟩ | ⟨-, h⟩
  · exact hs
  · dsimp only at h
    split at h
    · rename_i i e hopen
      obtain ⟨htop, -, -⟩ := Stack.openTop_spec hopen
      rcases State.flowsTo.of_result ((offerSequence_flowsTo _ _).andThen_on fun v => v.keeps_respond _ _) h
        with k | k
      · have hstack := k .stack (by simp)
        refine hs.progress p (State.alive_of_pins (k .pins (by simp))) (k .boot (by simp)).1 ?_ ?_
        all_goals rw [hstack]
        · exact hshape.write htop (by simp)
        · exact fun hb => Stack.based.write hb (.inr rfl)
      · exact k.stackShaped
    · rcases refuseStack_stepsTo h with k | k
      · exact hs.keeps p (State.keeps.trans (s.keeps_setWindow _) k) (by simp)
          (State.alive_of_pins (k .pins (by simp)))
      · exact k.stackShaped

theorem execExtendHashComplete_stackShaped (hs : s.stackShaped) (h : execExtendHashComplete s = .next t) :
    t.stackShaped := by
  have hshape := (s.stackShaped_iff.mp hs).1
  have p := execExtendHashComplete_progress h
  unfold execExtendHashComplete at h
  split at h
  · split at h
    · rename_i input i e _ hopen
      obtain ⟨htop, hopened, -⟩ := Stack.openTop_spec hopen
      have htag : (e.extended input).tag = .opened := hopened
      cases h
      refine hs.progress p id rfl (hshape.write htop (by simp [htag])) fun hb => hb.write (.inl ?_)
      by_contra hi
      obtain ⟨-, -, hi8, hget⟩ := Stack.openTop_spec hopen
      have := hb ⟨i, hi8⟩ (not_le.mp hi)
      simp [hget, hopened] at this
    · cases h
  · cases h
    exact hs

/-! ## The phases of a start -/

/-- A rejected step's selection goes on SELECTING, or HALT is reached. -/
theorem State.afterRejection_phase (s : State) (step : SelectStep) :
    (s.afterRejection step).boot.phase = s.boot.phase ∨ (s.afterRejection step).boot.phase = .halted := by
  have hother : ∀ u : State, u.enterOther.boot.phase = u.boot.phase := fun u =>
    (u.keeps_enterOther .boot (by simp)).1
  cases step with
  | pending slot => exact .inl rfl
  | committed => exact .inl (hother _)
  | other => exact .inl rfl
  | recovery => exact .inr rfl

theorem execManifestCheckComplete_stackShaped {copy content : FlashImage} (hs : s.stackShaped)
    (h : execManifestCheckComplete copy content s = .next t) : t.stackShaped := by
  have p := execManifestCheckComplete_progress h
  obtain ⟨hshape, hone, -⟩ := s.stackShaped_iff.mp hs
  rcases execManifestCheckComplete_stepsTo h with kept | k
  · have hstack : t.stack = s.stack := kept .stack (by simp)
    unfold execManifestCheckComplete at h
    split at h
    · split at h
      · rename_i step hphase _
        dsimp only at h
        split at h
        · cases h
          exact (State.stackShaped_iff _).mpr ⟨hshape, p.oneAtATime hone, fun _ _ => .inl ⟨rfl, rfl⟩⟩
        · rename_i reason region version hfail
          rcases recordRejection_flowsTo (s.checkInput step).address reason region s with
            ⟨v, hv, k⟩ | ⟨v, hv, k⟩ <;> rw [hv] at h <;> cases h
          · have hphase' : v.boot.phase = .selecting := (k .boot (by simp)).1.trans hphase
            refine hs.early p (hstack ▸ hshape) ?_
            rcases v.afterRejection_phase step with hp | hp <;> simp [hp, hphase']
          · exact State.restarts.stackShaped (s := s) ⟨v, _, .inl rfl, k⟩
      · cases h
    · cases h
      exact hs
  · exact k.stackShaped

theorem execStartUpEntries_stackShaped (hs : s.stackShaped) (h : execStartUpEntries s = .next t) :
    t.stackShaped := by
  have p := execStartUpEntries_progress h
  obtain ⟨-, hone, -⟩ := s.stackShaped_iff.mp hs
  rcases execStartUpEntries_stepsTo h with k | k
  · unfold execStartUpEntries at h
    split at h
    · split at h
      · rename_i b _ _ _
        suffices hwritten : t.stack = s.startUpStack b ∨ s.restarts t [.stack, .job] by
          rcases hwritten with hstack | k
          · exact t.stackShaped_iff.mpr ⟨hstack ▸ s.startUpStack_shaped b, p.oneAtATime hone,
              fun _ _ => .inr (hstack ▸ s.startUpStack_closed b)⟩
          · exact k.stackShaped
        dsimp only at h
        split at h
        · cases h
          exact .inl (by simp [s.withEntries_stack b])
        · rcases finishStart_work h with ⟨-, -, hstack⟩ | ⟨v, cause, ht, k⟩
          · exact .inl (hstack.trans (s.withEntries_stack b))
          · exact .inr ⟨v, cause, ht, ((s.keeps_withEntries b).mono (by simp)).trans (k.mono (by simp))⟩
      · cases h
    · cases h
      exact hs
  · exact k.stackShaped

theorem bootCountEffect_phase (s : State) :
    (bootCountEffect s).boot.phase = s.boot.phase ∨ (bootCountEffect s).boot.phase = .halted := by
  unfold bootCountEffect
  extract_lets r u
  split
  · split
    · exact .inl (by simp [u])
    · exact .inl (u.keeps_trySelect .boot (by simp)).1
  · exact .inr rfl

/-- A granule's marker write leaves the phase, or ends a start that was COMPLETING. -/
theorem markerEffect_phase {m : WipeMarker} (h : (markerEffect m s).result = .next t) :
    t.boot.phase = s.boot.phase ∨ s.boot.phase = .completing := by
  unfold markerEffect at h
  extract_lets r u at h
  split at h
  · cases h
    exact .inl (by simp [u])
  · split at h
    · exact .inr ‹_›
    · cases h
      exact .inl rfl

theorem writeEffect_stackShaped {w : Write} (hs : s.stackShaped) (hw : s.write = some w)
    (h : writeEffect w (s.setWrite none) = .next t) : t.stackShaped := by
  have p := writeEffect_progress hw h
  obtain ⟨hshape, hone, hentries⟩ := s.stackShaped_iff.mp hs
  have hidle : s.job = .idle := hone.resolve_right (by simp [hw])
  rcases writeEffect_stepsTo h with kept | k
  · have hstack : t.stack = s.stack := kept .stack (by cases w <;> simp [alteredByWrite])
    have halive : t.alive = true → s.alive = true :=
      State.alive_of_pins (kept .pins (by cases w <;> simp [alteredByWrite]))
    cases w with
    | bootCount =>
      obtain ⟨hphase, h⟩ := whileSelecting_next h
      cases h
      have hselecting : (s.setWrite none).boot.phase = .selecting := hphase
      refine hs.early p (hstack ▸ hshape) ?_
      rcases bootCountEffect_phase (s.setWrite none) with hp | hp <;> rw [hp]
      · rw [hselecting]
        simp
      · simp
    | markerAdvance =>
      refine t.stackShaped_iff.mpr ⟨hstack ▸ hshape, p.oneAtATime hone, fun ha hlate => .inr (hstack ▸ ?_)⟩
      simp only [writeEffect] at h
      split at h
      · have hphase : s.boot.phase = .completing ∨ s.boot.phase = .running := by
          rcases markerEffect_phase h with hp | hp
          · exact hp ▸ hlate
          · exact .inl hp
        exact (hentries (halive ha) hphase).resolve_left (by simp [hidle])
      · cases h
    | _ =>
      exact hs.progress p halive (kept .boot (by simp [alteredByWrite])).1 (hstack ▸ hshape) (hstack ▸ id)
  · exact k.stackShaped

theorem execWriteTakesEffect_stackShaped (hs : s.stackShaped) (h : execWriteTakesEffect s = .next t) :
    t.stackShaped := by
  unfold execWriteTakesEffect at h
  split at h
  · split at h
    · exact writeEffect_stackShaped hs ‹_› h
    · cases h
  · cases h
    exact hs

/-! ## Every command -/

/-- With the supply down or RESET_N held the part is not alive. -/
theorem State.not_alive (h : s.pins.supply = false ∨ s.pins.resetAsserted = true) : s.alive ≠ true := by
  rcases h with h | h <;> simp [State.alive, h]

theorem wakes_of_stepsTo (k : s.stepsTo t altered) (hA : .pins ∉ altered) (ha : t.alive = true) :
    s.alive = true ∨ s.restarts t altered :=
  k.imp_left fun k => State.alive_of_pins (k _ hA) ha

/-- The part comes alive by a start alone: the supply rises or RESET_N is released (R68). -/
theorem exec_wakes {c : Instr} (h : exec c s = .next t) (ha : t.alive = true) :
    s.alive = true ∨ s.restarts t (alteredBy c) := by
  have k := exec_stepsTo h
  cases c with
  | hostTransactionBegin =>
    change execHostTransactionBegin s = _ at h
    unfold execHostTransactionBegin at h
    split at h
    · cases h
    · dsimp only at h
      split at h
      · exact .inl ‹s.alive = true›
      · split at h <;> cases h <;> exact .inl ha
  | hostTransactionEnd =>
    change execHostTransactionEnd s = _ at h
    unfold execHostTransactionEnd at h
    split at h <;> cases h
    exact .inl (by simpa [State.alive] using ha)
  | supplyRise =>
    change execSupplyRise s = _ at h
    unfold execSupplyRise at h
    split at h
    · cases h
    · split at h <;> cases h
      · exact absurd ha (State.not_alive (.inr ‹_›))
      · exact .inr ⟨_, _, .inl rfl, by simp [State.keeps_iff, alteredBy]⟩
  | supplyFall =>
    change execSupplyFall s = _ at h
    unfold execSupplyFall at h
    split at h <;> cases h
    exact absurd ha (State.not_alive (.inl rfl))
  | resetNAssert =>
    change execResetNAssert s = _ at h
    unfold execResetNAssert at h
    split at h
    · cases h
    · dsimp only at h
      split at h <;> cases h <;> exact absurd ha (State.not_alive (.inr rfl))
  | resetNRelease =>
    change execResetNRelease s = _ at h
    unfold execResetNRelease at h
    split at h
    · dsimp only at h
      split at h <;> cases h
      · exact .inr ⟨_, _, .inl rfl, by simp [State.keeps_iff, alteredBy]⟩
      · exact absurd ha (State.not_alive (.inl (Bool.eq_false_iff.mpr ‹_›)))
    · cases h
  | _ => exact wakes_of_stepsTo k (by simp [alteredBy]) ha

theorem exec_stackShaped {c : Instr} (hs : s.stackShaped) (h : exec c s = .next t) : t.stackShaped := by
  cases c with
  | openStage => exact execOpenStage_stackShaped hs h
  | closeStage => exact execCloseStage_stackShaped hs h
  | extendHashComplete => exact execExtendHashComplete_stackShaped hs h
  | manifestCheckComplete copy content => exact execManifestCheckComplete_stackShaped hs h
  | startUpEntries => exact execStartUpEntries_stackShaped hs h
  | writeTakesEffect => exact execWriteTakesEffect_stackShaped hs h
  | _ => exact hs.stepsTo (exec_progress h) (exec_stepsTo h) (by simp [alteredBy]) (exec_wakes h)

end

/-- Settles O59: the stack's requests write at its top, a start empties it or writes its first three entries, and
everything else leaves it. -/
theorem stepKeepsTheStackShape : Obligations.StepKeepsTheStackShape :=
  fun _ _ => step_preserves (fun _ _ h => h)
    (fun s h => State.stackShaped.keeps h (.of_keeps s.keeps_tick (by simp)) (altered := []) s.keeps_tick (by simp)
      (State.alive_of_pins (s.keeps_tick .pins (by simp))))
    (fun _ _ _ => exec_stackShaped)

end Sys2Proof.Machine
end

section
/-! PROOFS. The first law (R24): where an OPEN rule lets the host write, no protected area lies; and what keeps the
tables and the forwarded transaction such. -/

namespace Sys2Proof.Machine

/-! ## Stretches of addresses -/

theorem not_overlaps_iff (a m b n : Nat) : overlaps a m b n = false ↔ b + n ≤ a ∨ a + m ≤ b := by
  simp [overlaps]
  omega

/-- A stretch within another is clear of what the other is clear of. -/
theorem not_overlaps_of_within {p n x m b l : Nat} (h : overlaps x m b l = false) (hp : x ≤ p)
    (hn : p + n ≤ x + m) : overlaps p n b l = false := by
  rw [not_overlaps_iff] at h ⊢
  omega

theorem areasDisjoint_iff (xs ys : List (Nat × Nat)) :
    areasDisjoint xs ys = true ↔ ∀ x ∈ xs, ∀ y ∈ ys, overlaps x.1 x.2 y.1 y.2 = false := by
  simp [areasDisjoint]

theorem clearOf_iff (areas : List (Nat × Nat)) (p n : Nat) :
    clearOf areas p n = true ↔ ∀ x ∈ areas, overlaps p n x.1 x.2 = false := by
  simp [clearOf]

/-- A stretch within an area that is disjoint from a list of areas is clear of them. -/
theorem clearOf_of_within {xs areas : List (Nat × Nat)} {x : Nat × Nat} {p n : Nat}
    (h : areasDisjoint xs areas = true) (hx : x ∈ xs) (hp : x.1 ≤ p) (hn : p + n ≤ x.1 + x.2) :
    clearOf areas p n = true :=
  (clearOf_iff _ _ _).mpr fun y hy =>
    not_overlaps_of_within ((areasDisjoint_iff _ _).mp h x hx y hy) hp hn

theorem clearOf_mono {areas more : List (Nat × Nat)} {p n : Nat} (h : clearOf more p n = true)
    (hsub : areas ⊆ more) : clearOf areas p n = true := by
  rw [clearOf_iff] at h ⊢
  exact fun x hx => h x (hsub hx)

/-! ## What a loaded table says of a record (R23, R24) -/

section
variable {f : Fuses} {kind : ManifestKind} {records : List RegionRecord} {r : RegionRecord}

/-- The conditions of R23 on one record, as numbers. -/
structure RegionRecord.Loaded (r : RegionRecord) : Prop where
  base : r.base % 4096 = 0
  limit : r.limit % 4096 = 0
  order : r.base < r.limit
  pair : pairAllowed r.rule r.view = true
  areas : r.view ≠ .none → r.pa % 4096 = 0 ∧ r.pb % 4096 = 0

theorem loaded_of_regionsOk (h : regionsOk f kind records = true) (hr : r ∈ records) : r.Loaded := by
  simp only [regionsOk, Bool.and_eq_true, List.all_eq_true] at h
  have hok := h.1.1.1.1.2 r hr
  simp only [recordOk, RegionRecord.translates, Config.granule, Bool.and_eq_true, Bool.or_eq_true,
    decide_eq_true_eq] at hok
  obtain ⟨⟨⟨⟨⟨⟨⟨hbase, hlimit⟩, horder⟩, -⟩, hareas⟩, hpair⟩, -⟩, -⟩ := hok
  refine ⟨of_decide_eq_true hbase, of_decide_eq_true hlimit, horder, hpair, fun hview => ?_⟩
  obtain ⟨⟨⟨hpa, hpb⟩, -⟩, -⟩ := hareas.resolve_left (by simp [hview])
  exact ⟨of_decide_eq_true hpa, of_decide_eq_true hpb⟩

theorem areasOk_iff (f : Fuses) (records : List RegionRecord) : areasOk f records = true ↔
    areasDisjoint (sideAreas f records .a) (sideAreas f records .b) = true ∧
    areasDisjoint (sideAreas f records .a ++ sideAreas f records .b) (recoveryAreas f) = true ∧
    areasDisjoint ((records.filter fun r => decide (r.rule = .openAll) || decide (r.rule = .owner)).map
      fun r => (r.base, r.size)) (sideAreas f records .a ++ sideAreas f records .b ++ recoveryAreas f) = true := by
  simp only [areasOk, Bool.and_eq_true, and_assoc]

/-- A record that translates has its area on either side among that side's areas. -/
theorem mem_sideAreas (hr : r ∈ records) (hview : r.view ≠ .none) (slot : Slot) :
    (r.physicalBase slot, r.size) ∈ sideAreas f records slot := by
  refine List.mem_cons_of_mem _ (List.mem_map.mpr ⟨r, ?_, rfl⟩)
  simp [hr, RegionRecord.translates, hview]

/-- The two sides lie clear of each other, whichever is first. -/
theorem sides_disjoint (h : areasOk f records = true) (slot : Slot) :
    areasDisjoint (sideAreas f records slot) (sideAreas f records slot.other) = true := by
  obtain ⟨hab, -, -⟩ := (areasOk_iff f records).mp h
  cases slot with
  | a => exact hab
  | b =>
    rw [areasDisjoint_iff] at hab ⊢
    intro x hx y hy
    have := hab y hy x hx
    rw [not_overlaps_iff] at this ⊢
    exact this.symm

theorem side_recovery_disjoint (h : areasOk f records = true) (slot : Slot) :
    areasDisjoint (sideAreas f records slot) (recoveryAreas f) = true := by
  obtain ⟨-, hrecovery, -⟩ := (areasOk_iff f records).mp h
  rw [areasDisjoint_iff] at hrecovery ⊢
  intro x hx
  cases slot with
  | a => exact hrecovery x (List.mem_append_left _ hx)
  | b => exact hrecovery x (List.mem_append_right _ hx)

end

section
variable {s : State} {b : Booted} {i : Nat} {r : RegionRecord}

theorem State.loadedBy_iff (s : State) (b : Booted) : s.loadedBy b = true ↔
    s.boot.outcome = .booted b ∧
    regionsOk s.fuses (if b.running = .r then .recovery else .slot) s.regions.records = true ∧
    areasOk s.fuses s.regions.records = true ∧ s.regions.defaultRule ≠ .openAll ∧ b.target.run ≠ b.running := by
  simp only [State.loadedBy, Bool.and_eq_true, decide_eq_true_eq, and_assoc]

/-- The areas of a running slot are among its side's. -/
theorem State.runningAreas_subset (s : State) (slot : Slot) :
    s.runningAreas slot ⊆ sideAreas s.fuses s.regions.records slot := by
  refine List.cons_subset_cons _ (List.map_subset _ fun r hr => ?_)
  obtain ⟨hmem, hview⟩ := List.mem_filter.mp hr
  exact List.mem_filter.mpr ⟨hmem, by simp_all [RegionRecord.translates]⟩

/-- The protected areas: of the side that runs, and of recovery. -/
theorem State.protectedAreas_subset (s : State) (b : Booted) {slot : Slot} (h : slot.run ≠ b.running) :
    s.protectedAreas b ⊆ sideAreas s.fuses s.regions.records slot.other ++ recoveryAreas s.fuses := by
  have hspan : (s.fuses.recoveryBase, s.fuses.recoverySize) ∈
      sideAreas s.fuses s.regions.records slot.other ++ recoveryAreas s.fuses := by
    simp [recoveryAreas]
  refine List.cons_subset.mpr ⟨hspan, ?_⟩
  cases slot <;> cases hrun : b.running <;> simp [Slot.run, hrun] at h
  case a.b => exact List.subset_append_of_subset_left _ (s.runningAreas_subset .b)
  case b.a => exact List.subset_append_of_subset_left _ (s.runningAreas_subset .a)
  all_goals simp [recoveryAreas]

/-- Of the rules of a record those that can be OPEN now are OPEN, OWNER and SPARE (R28 to R30). -/
theorem State.rule_of_openAll (hr : s.regions.records[i]? = some r)
    (h : s.effectiveRule (.record i) = .openAll) :
    r.rule = .openAll ∨ r.rule = .owner ∨ r.rule = .spare := by
  have hbase : s.baseRule r = .openAll := by
    have hle := r.tight.rank_le_apply (s.baseRule r)
    rw [← State.effectiveRule_record hr, h] at hle
    cases hb : s.baseRule r <;> simp_all [Access.rank]
  unfold State.baseRule at hbase
  split at hbase <;> simp_all

/-- What the host may write of a record lies clear of the protected areas (R24). -/
theorem State.clearOf_protected (h : s.loadedBy b = true) (hr : s.regions.records[i]? = some r)
    (hopen : s.effectiveRule (.record i) = .openAll) {a n : Nat} (ha : r.base ≤ a) (hn : a + n ≤ r.limit) :
    clearOf (s.protectedAreas b) (s.translate (.record i) a) n = true := by
  obtain ⟨hbooted, hregions, hareas, -, htarget⟩ := (s.loadedBy_iff b).mp h
  have hmem : r ∈ s.regions.records := List.mem_of_getElem? hr
  have hloaded := loaded_of_regionsOk hregions hmem
  have hprotected := s.protectedAreas_subset b htarget
  have horder := hloaded.order
  have hpair := hloaded.pair
  have hsize : r.size = r.limit - r.base := rfl
  by_cases hspare : r.rule = .spare
  · have hview : r.view = .spare := by
      cases hv : r.view <;> simp_all [pairAllowed]
    have htranslate : s.translate (.record i) a = r.physicalBase b.target + (a - r.base) := by
      simp [State.translate, State.recordOf, hr, hview, State.viewSlot, State.booted, hbooted]
    have harea := mem_sideAreas (f := s.fuses) hmem (by simp [hview]) b.target
    rw [htranslate]
    have hside := clearOf_of_within (n := n) (p := r.physicalBase b.target + (a - r.base))
      (sides_disjoint hareas b.target) harea (by simp) (by simp only; omega)
    have hrecovery := clearOf_of_within (n := n) (p := r.physicalBase b.target + (a - r.base))
      (side_recovery_disjoint hareas b.target) harea (by simp) (by simp only; omega)
    refine clearOf_mono (more := _ ++ _) ?_ hprotected
    rw [clearOf_iff] at hside hrecovery ⊢
    exact fun x hx => (List.mem_append.mp hx).elim (hside x) (hrecovery x)
  · have hrule : r.rule = .openAll ∨ r.rule = .owner := by
      rcases State.rule_of_openAll hr hopen with h | h | h
      · exact .inl h
      · exact .inr h
      · exact absurd h hspare
    have hview : r.view = .none := by
      rcases hrule with hrule | hrule <;> cases hv : r.view <;> simp_all [pairAllowed]
    have htranslate : s.translate (.record i) a = a := by
      simp [State.translate, State.recordOf, hr, hview]
    obtain ⟨-, -, hwritable⟩ := (areasOk_iff _ _).mp hareas
    rw [htranslate]
    have hclear := clearOf_of_within hwritable (x := (r.base, r.size)) (p := a) (n := n)
      (List.mem_map.mpr ⟨r, List.mem_filter.mpr ⟨hmem, by simpa using hrule⟩, rfl⟩) ha (by simp only; omega)
    refine clearOf_mono hclear fun x hx => ?_
    simp only [List.mem_append]
    rcases List.mem_append.mp (hprotected hx) with hside | hrecovery
    · cases htarget' : b.target <;> rw [htarget'] at hside
      · exact .inl (.inr hside)
      · exact .inl (.inl hside)
    · exact .inr hrecovery

/-- Physical addresses keep their place in a 256-byte page (R27): every base is that of a granule. -/
theorem State.translate_page (hr : s.regions.records[i]? = some r) (hloaded : r.Loaded)
    (hspare : r.rule = .openAll ∨ r.rule = .owner ∨ r.rule = .spare) (hbooted : s.boot.outcome = .booted b)
    {a : Nat} (ha : r.base ≤ a) :
    s.translate (.record i) a - s.translate (.record i) a % 256 = s.translate (.record i) (a - a % 256) := by
  have hbase := hloaded.base
  cases hview : r.view with
  | none => simp [State.translate, State.recordOf, hr, hview]
  | running =>
    have hpair := hloaded.pair
    rcases hspare with h | h | h <;> simp [h, hview, pairAllowed] at hpair
  | spare =>
    obtain ⟨hpa, hpb⟩ := hloaded.areas (by simp [hview])
    have hphysical : r.physicalBase b.target % 4096 = 0 := by cases b.target <;> assumption
    simp [State.translate, State.recordOf, hr, hview, State.viewSlot, State.booted, hbooted]
    omega

end

/-! ## What a decision opens -/

section
variable {s : State} {b : Booted}

/-- An OPEN rule at an address is a record's, while a manifest is loaded: the default rule is stricter (R23). -/
theorem State.record_of_openAll (h : s.loadedBy b = true) {a : Nat}
    (hopen : s.effectiveRule (s.lookup a) = .openAll) :
    ∃ i r, s.lookup a = .record i ∧ s.regions.records[i]? = some r ∧ r.base ≤ a ∧ a < r.limit := by
  obtain ⟨-, -, -, hdefault, -⟩ := (s.loadedBy_iff b).mp h
  rcases lookup_cases s a with ⟨i, r, hl, hr, hholds⟩ | ⟨hl, -⟩
  · obtain ⟨hbase, hlimit⟩ := (r.holds_iff a).mp hholds
    exact ⟨i, r, hl, hr, hbase, hlimit⟩
  · rw [hl, s.effectiveRule_gap] at hopen
    exact absurd hopen hdefault

/-- A forwarded PROGRAM's page lies clear of the protected areas (R12, R24). -/
theorem State.program_clear (h : s.loadedBy b = true) {a : Nat}
    (hopen : s.effectiveRule (s.lookup a) = .openAll) :
    clearOf (s.protectedAreas b) (s.translate (s.lookup a) a - s.translate (s.lookup a) a % 256) 256 = true := by
  obtain ⟨i, r, hl, hr, hbase, hlimit⟩ := State.record_of_openAll h hopen
  obtain ⟨hbooted, hregions, -, -, -⟩ := (s.loadedBy_iff b).mp h
  have hloaded := loaded_of_regionsOk hregions (List.mem_of_getElem? hr)
  rw [hl] at hopen ⊢
  rw [State.translate_page hr hloaded (State.rule_of_openAll hr hopen) hbooted hbase]
  have := hloaded.base
  have := hloaded.limit
  exact State.clearOf_protected h hr hopen (by omega) (by omega)

/-- A forwarded erase's span lies clear of the protected areas (R24, R41). -/
theorem State.erase_clear (h : s.loadedBy b = true) {a n : Nat}
    (hspan : s.lookup (a + n - 1) = s.lookup a) (hopen : s.effectiveRule (s.lookup a) = .openAll) :
    clearOf (s.protectedAreas b) (s.translate (s.lookup a) a) n = true := by
  obtain ⟨i, r, hl, hr, hbase, -⟩ := State.record_of_openAll h hopen
  obtain ⟨j, q, hl', hq, -, hlimit⟩ := State.record_of_openAll h (a := a + n - 1) (hspan ▸ hopen)
  obtain rfl : i = j := by
    rw [hl, hl'] at hspan
    simpa using hspan.symm
  obtain rfl : r = q := by simpa [hr] using hq
  rw [hl] at hopen ⊢
  exact State.clearOf_protected h hr hopen hbase (by omega)

end

end Sys2Proof.Machine
end

section
/-! PROOFS. The first law at the step that opens a transaction, and at every step (R24). -/

namespace Sys2Proof.Machine

/-- A transaction of this class may be opened to `p`: what it can change lies clear of the protected areas. -/
def State.mayOpen (s : State) (k : InstrClass) (p : Nat) : Prop :=
  ∀ (b : Booted) (reached : Nat × Nat), s.loadedBy b = true → k.reach p = some reached →
    clearOf (s.protectedAreas b) reached.1 reached.2 = true

section
variable {s t u : State} {altered : List Field} {b : Booted}

theorem State.decides.mono {f : Flow} {opens more : Nat → Prop} (h : s.decides f opens)
    (hm : ∀ p, opens p → more p) : s.decides f more := by
  rcases h with h | ⟨k, p, hk, hd, hp, hf⟩
  · exact .inl h
  · exact .inr ⟨k, p, hk, hd, hm p hp, hf⟩

/-! ## What each decision may open -/

theorem decideRead_mayOpen (e : ClassEntry) (a : Nat) (s : State) :
    s.decides (decideRead e a s) (s.mayOpen .read) :=
  (decideRead_decides e a s).mono fun _ _ _ _ _ hreach => nomatch hreach

theorem decideProgram_mayOpen (e : ClassEntry) (a : Nat) (s : State) :
    s.decides (decideProgram e a s) (s.mayOpen .program) := by
  refine (decideProgram_decides e a s).mono fun p ⟨hopen, hp⟩ b reached hload hreach => ?_
  cases hreach
  subst hp
  exact State.program_clear hload hopen

/-- An erase whose span is judged whole lies clear. -/
theorem State.mayOpen_of_erase {k : InstrClass} {n : Nat} (hk : ∀ p, k.reach p = some (p, n)) {a p : Nat}
    (h : s.lookup (a + n - 1) = s.lookup a ∧ s.effectiveRule (s.lookup a) = .openAll ∧
      p = s.translate (s.lookup a) a ∧ p % n = 0) : s.mayOpen k p := by
  obtain ⟨hspan, hopen, rfl, -⟩ := h
  intro b reached hload hreach
  rw [hk] at hreach
  cases hreach
  exact State.erase_clear hload hspan hopen

theorem decideErase4k_mayOpen (e : ClassEntry) (a : Nat) (s : State) :
    s.decides (decideErase4k e a s) (s.mayOpen .erase4k) :=
  (decideErase4k_decides e a s).mono fun _ => State.mayOpen_of_erase fun _ => rfl

theorem decideErase32k_mayOpen (e : ClassEntry) (a : Nat) (s : State) :
    s.decides (decideErase 32768 e a s) (s.mayOpen .erase32k) :=
  (decideErase_decides 32768 e a s).mono fun _ => State.mayOpen_of_erase fun _ => rfl

theorem decideErase64k_mayOpen (e : ClassEntry) (a : Nat) (s : State) :
    s.decides (decideErase 65536 e a s) (s.mayOpen .erase64k) :=
  (decideErase_decides 65536 e a s).mono fun _ => State.mayOpen_of_erase fun _ => rfl

/-! ## The step that opens a transaction -/

/-- A step that opens nothing leaves nothing forwarded where nothing was. -/
theorem State.stepsTo.not_forwarded (k : s.stepsTo t altered) (hA : .port ∉ altered)
    (h : s.port.openTx.forwarded = false) : t.port.openTx.forwarded = false := by
  rcases k with k | ⟨v, cause, rfl | rfl, -⟩
  · exact eq_false_of_ne_true fun ht =>
      absurd (OpenTransaction.OpensNothing.forwarded (k _ hA) ht) (by simp [h])
  · rfl
  · rfl

/-- An address's step opens what its decision may open, or nothing. -/
theorem onAddress_opens {cls : InstrClass} {address : Bytes} {decide : ClassEntry → Nat → State → Flow}
    {byte : Byte} {lanes p : Nat} {last : Option Byte}
    (h : onAddress cls address s (fun e a v => (decide e a v).result) = .next t)
    (hdecide : ∀ e a (v : State), v.decides (decide e a v) (v.mayOpen cls))
    (hclosed : s.port.openTx.forwarded = false) (hopen : t.port.openTx = .host byte lanes (some p) last) :
    s.mayOpen cls p := by
  have hforwarded : t.port.openTx.forwarded = true := by rw [hopen]; rfl
  rcases onAddress_next h with rfl | ⟨e, -, -, -, -, h⟩
  · simp [hclosed] at hforwarded
  · rcases hdecide e (ofBe address % s.flashSize) (s.addressed e address) with ⟨k, -, hflow⟩ | ⟨k, q, -, -, hq, hf⟩
    · have := (hflow.of_result h).not_forwarded (by simp) hclosed
      simp [this] at hforwarded
    · rw [hf] at h
      cases h
      obtain ⟨-, -, rfl, -⟩ : _ ∧ _ ∧ q = p ∧ _ := by simpa using hopen
      exact hq

end

/-- Settles O34: a write is forwarded from an OPEN record alone, whose span lies clear of every protected area. -/
theorem firstLaw : Obligations.FirstLaw := by
  intro command k hmem s t b address byte lanes p last reached hload hclosed h hopen hreach
  simp only [List.mem_cons, List.not_mem_nil, or_false, Prod.mk.injEq] at hmem
  rcases hmem with ⟨rfl, rfl⟩ | ⟨rfl, rfl⟩ | ⟨rfl, rfl⟩ | ⟨rfl, rfl⟩
  · exact onAddress_opens h decideProgram_mayOpen hclosed hopen b reached hload hreach
  · exact onAddress_opens ((execErase4k_eq _ _).symm.trans h) decideErase4k_mayOpen hclosed hopen b reached
      hload hreach
  · exact onAddress_opens h decideErase32k_mayOpen hclosed hopen b reached hload hreach
  · exact onAddress_opens h decideErase64k_mayOpen hclosed hopen b reached hload hreach

/-! ## What tightening and blown fuses leave of the tables -/

/-- A record without its tightening: all that the conditions of R23 and R24 read. -/
def RegionRecord.untightened (r : RegionRecord) : RegionRecord :=
  { r with tight := .none }

section
variable {s t u : State} {altered : List Field} {b : Booted}

theorem RegionTable.Tightens.untightened {x y : RegionTable} (h : x.Tightens y) :
    y.records.map RegionRecord.untightened = x.records.map RegionRecord.untightened := by
  refine List.ext_getElem? fun i => ?_
  simp only [List.getElem?_map]
  cases hy : y.records[i]? with
  | none =>
    rw [List.getElem?_eq_none_iff, h.length, ← List.getElem?_eq_none_iff] at hy
    rw [hy]
  | some r' =>
    obtain ⟨r, hr, -, hr'⟩ := h.records i r' hy
    rw [hr, hr']
    rfl

theorem regionsOk_untightened (f : Fuses) (kind : ManifestKind) (records : List RegionRecord) :
    regionsOk f kind (records.map RegionRecord.untightened) = regionsOk f kind records := by
  have hspare : ∀ r : RegionRecord, spareOk f kind (records.map RegionRecord.untightened) r.untightened
      = spareOk f kind records r := fun r => by
    simp only [spareOk, List.any_map]
    rfl
  simp only [regionsOk, ascending, countRule, List.length_map, List.all_map, List.countP_map,
    List.pairwise_map, Function.comp_def, hspare]
  rfl

theorem sideAreas_untightened (f : Fuses) (records : List RegionRecord) (slot : Slot) :
    sideAreas f (records.map RegionRecord.untightened) slot = sideAreas f records slot := by
  simp only [sideAreas, List.filter_map, List.map_map]
  cases slot <;> rfl

theorem areasOk_untightened (f : Fuses) (records : List RegionRecord) :
    areasOk f (records.map RegionRecord.untightened) = areasOk f records := by
  simp only [areasOk, sideAreas_untightened, List.filter_map, List.map_map]
  rfl

/-- The areas of the RUNNING-view records. -/
theorem runningRecords_untightened (records : List RegionRecord) (slot : Slot) :
    ((records.map RegionRecord.untightened).filter fun r => decide (r.view = .running)).map
        (fun r => (r.physicalBase slot, r.size))
      = (records.filter fun r => decide (r.view = .running)).map fun r => (r.physicalBase slot, r.size) := by
  simp only [List.filter_map, List.map_map]
  cases slot <;> rfl

theorem regionsOk_grown {f g : Fuses} (h : f.grownFrom g) (kind : ManifestKind) (records : List RegionRecord) :
    regionsOk f kind records = regionsOk g kind records := by
  obtain ⟨-, -, -, hf⟩ := h
  rw [hf]
  rfl

theorem areasOk_grown {f g : Fuses} (h : f.grownFrom g) (records : List RegionRecord) :
    areasOk f records = areasOk g records := by
  obtain ⟨-, -, -, hf⟩ := h
  rw [hf]
  rfl

/-- A loaded table stays one that a check passes while it is only tightened and fuses are only blown. -/
theorem State.loadedBy_of (hr : s.regions.Tightens t.regions) (hf : t.fuses.grownFrom s.fuses)
    (ho : t.boot.outcome = s.boot.outcome) : t.loadedBy b = s.loadedBy b := by
  have hregions : ∀ kind, regionsOk t.fuses kind t.regions.records = regionsOk s.fuses kind s.regions.records :=
    fun kind => by
      rw [regionsOk_grown hf, ← regionsOk_untightened, hr.untightened, regionsOk_untightened]
  have hareas : areasOk t.fuses t.regions.records = areasOk s.fuses s.regions.records := by
    rw [areasOk_grown hf, ← areasOk_untightened, hr.untightened, areasOk_untightened]
  unfold State.loadedBy
  rw [hregions, hareas, hr.default, ho]

theorem State.protectedAreas_of (hr : s.regions.Tightens t.regions) (hf : t.fuses.grownFrom s.fuses) :
    t.protectedAreas b = s.protectedAreas b := by
  have hrunning : ∀ slot, t.runningAreas slot = s.runningAreas slot := fun slot => by
    unfold State.runningAreas
    rw [← runningRecords_untightened, hr.untightened, runningRecords_untightened]
    obtain ⟨-, -, -, hf⟩ := hf
    rw [hf]
    cases slot <;> rfl
  unfold State.protectedAreas
  rw [hrunning, hrunning]
  obtain ⟨-, -, -, hf⟩ := hf
  rw [hf]
  rfl

/-! ## The invariant, in its three parts -/

/-- The table of a loaded manifest is one that a check passes. -/
def State.tablesSound (s : State) : Prop :=
  ∀ b, s.boot.outcome = .booted b → s.loadedBy b = true

/-- The PROGRAM or erase open for the host reaches no byte of the protected areas. -/
def State.openClear (s : State) : Prop :=
  ∀ b, s.boot.outcome = .booted b →
    ∀ (byte : Byte) (lanes p : Nat) (last : Option Byte) (e : ClassEntry) (reached : Nat × Nat),
      s.port.openTx = .host byte lanes (some p) last → s.host.entry = some e →
      e.cls.reach p = some reached → clearOf (s.protectedAreas b) reached.1 reached.2 = true

theorem State.lawful_iff (s : State) : s.lawful ↔ s.forwardingSound ∧ s.tablesSound ∧ s.openClear := by
  unfold State.lawful State.tablesSound State.openClear
  exact ⟨fun ⟨hsound, h⟩ => ⟨hsound, fun b hb => (h b hb).1, fun b hb => (h b hb).2⟩,
    fun ⟨hsound, htables, hclear⟩ => ⟨hsound, fun b hb => ⟨htables b hb, hclear b hb⟩⟩⟩

theorem State.openClear_of_not_forwarded (h : s.port.openTx.forwarded = false) : s.openClear := by
  intro b _ byte lanes p last e reached hopen
  rw [hopen] at h
  cases h

/-- The verdict stands, or no manifest is loaded any more. -/
def State.OutcomeStands (s t : State) : Prop :=
  t.boot.outcome = s.boot.outcome ∨ ∀ b, t.boot.outcome ≠ .booted b

theorem State.tablesSound.keeps (h : s.tablesSound) (k : s.keeps t altered) (hA : .regions ∉ altered)
    (hf : .fuses ∉ altered) (ho : s.OutcomeStands t) : t.tablesSound := by
  intro b hb
  have ho := ho.resolve_right fun hnot => hnot b hb
  rw [State.loadedBy_of (k _ hA) (k _ hf) ho]
  exact h b (ho ▸ hb)

theorem State.openClear.keeps (h : s.openClear) (k : s.keeps t altered)
    (hA : .regions ∉ altered ∧ .fuses ∉ altered ∧ .host ∉ altered ∧ .port ∉ altered)
    (ho : s.OutcomeStands t) : t.openClear := by
  obtain ⟨hregions, hfuses, hhost, hport⟩ := hA
  intro b hb byte lanes p last e reached hopen hentry hreach
  have ho := ho.resolve_right fun hnot => hnot b hb
  have hopens := k _ hport
  simp only [Field.kept] at hopens
  rw [hopen] at hopens
  obtain ⟨last', hopen'⟩ := hopens.host
  rw [State.protectedAreas_of (k _ hregions) (k _ hfuses)]
  exact h b (ho ▸ hb) byte lanes p last' e reached hopen' ((k _ hhost).entry ▸ hentry) hreach

/-- What is open for the host is still its own transaction while the record goes on and nothing more is opened. -/
theorem State.forwardingSound.keeps (h : s.forwardingSound) (k : s.keeps t altered)
    (hA : .host ∉ altered ∧ .port ∉ altered) (hpins : t.pins.hcsAsserted = s.pins.hcsAsserted) :
    t.forwardingSound := by
  obtain ⟨hasserted, hundecided, hforwarded⟩ := h
  have hgoes : s.host.GoesOn t.host := k _ hA.1
  refine ⟨fun hp => hpins ▸ hasserted (mt hgoes.idle.mpr hp), fun hp => ?_, fun hf => ?_⟩
  · exact hgoes.decision.trans (hundecided (hgoes.instruction.mp hp))
  · obtain ⟨hidle, hdecision, haddress⟩ := hforwarded (OpenTransaction.OpensNothing.forwarded (k _ hA.2) hf)
    exact ⟨mt hgoes.idle.mp hidle, hgoes.decision.trans hdecision,
      fun hp e he => haddress (hgoes.address hp) e (hgoes.entry ▸ he)⟩

/-- Where nothing is forwarded a transaction on the bus is all there is to ask. -/
theorem forwardingSound_of_not_forwarded (hasserted : s.host.phase ≠ .idle → s.pins.hcsAsserted = true)
    (hundecided : s.host.phase = .instruction → s.host.decision = none)
    (hclosed : s.port.openTx.forwarded = false) : s.forwardingSound :=
  ⟨hasserted, hundecided, fun hf => absurd hf (by simp [hclosed])⟩

theorem State.hostAbandoned_sound (s : State) :
    (s.hostAbandoned.phase ≠ .idle → s.pins.hcsAsserted = true) ∧ s.hostAbandoned.decision = none := by
  unfold State.hostAbandoned
  split
  · exact ⟨fun _ => ‹_›, rfl⟩
  · exact ⟨fun h => absurd rfl h, rfl⟩

/-- Nothing is forwarded and the record is abandoned or idle (R21, R68). -/
theorem lawful_of_released (hh : t.host = u.hostAbandoned) (hp : t.pins.hcsAsserted = u.pins.hcsAsserted)
    (hclosed : t.port.openTx = .none) (htables : t.tablesSound) : t.lawful := by
  obtain ⟨hasserted, hundecided⟩ := u.hostAbandoned_sound
  have hf : t.port.openTx.forwarded = false := by rw [hclosed]; rfl
  refine t.lawful_iff.mpr ⟨forwardingSound_of_not_forwarded ?_ ?_ hf, htables,
    State.openClear_of_not_forwarded hf⟩
  · rwa [hh, hp]
  · rw [hh]
    exact fun _ => hundecided

theorem State.restarts.lawful (h : s.restarts t altered) : t.lawful := by
  obtain ⟨u, cause, rfl | rfl, -⟩ := h <;>
    exact lawful_of_released (u := u) rfl rfl rfl fun b hb => nomatch hb

theorem State.lawful.keeps (h : s.lawful) (k : s.keeps t altered)
    (hA : .regions ∉ altered ∧ .fuses ∉ altered ∧ .host ∉ altered ∧ .port ∉ altered)
    (hpins : t.pins.hcsAsserted = s.pins.hcsAsserted) (ho : s.OutcomeStands t) : t.lawful := by
  obtain ⟨hsound, htables, hclear⟩ := s.lawful_iff.mp h
  obtain ⟨hr, hf, hh, hp⟩ := hA
  exact t.lawful_iff.mpr ⟨hsound.keeps k ⟨hh, hp⟩ hpins, htables.keeps k hr hf ho,
    hclear.keeps k ⟨hr, hf, hh, hp⟩ ho⟩

theorem State.lawful.stepsTo (h : s.lawful) (k : s.stepsTo t altered)
    (hA : .regions ∉ altered ∧ .fuses ∉ altered ∧ .host ∉ altered ∧ .port ∉ altered ∧ .pins ∉ altered ∧
      .boot ∉ altered) : t.lawful := by
  obtain ⟨hr, hf, hh, hp, hpins, hb⟩ := hA
  rcases k with k | k
  · exact h.keeps k ⟨hr, hf, hh, hp⟩ (congrArg Pins.hcsAsserted (k _ hpins)) (.inl (k _ hb).2)
  · exact k.lawful

end

end Sys2Proof.Machine
end

section
/-! PROOFS. Chapter 4: what a passing manifest check has met, and the tables it makes live. -/

namespace Sys2Proof.Machine

/-! ## What a check has met (R81 to R86) -/

section
variable {f : Fuses} {input : CheckInput} {copy content : FlashImage} {m : Manifest} {bs : Bytes}

/-- The epoch, the layout and the structure that steps 4 and 5 have passed, on the copy they keep (R85, R86). -/
theorem checkTables_pass {image : Bytes} (h : checkTables f input content image = .pass m bs) :
    image = bs ∧ (input.kind = .slot → epochValue f.epochBits ≤ numAt image 10 2) ∧
      parseManifest input.kind image = some m ∧ structureOk f m = true := by
  unfold checkTables at h
  extract_lets version reached at h
  split at h
  · cases h
  · rename_i hversion
    split at h
    · cases h
    · rename_i hparse
      split at h
      · split at h <;> cases h
        exact ⟨rfl, fun hk => not_lt.mp fun hlt => hversion ⟨hk, hlt⟩, hparse, ‹_›⟩
      · cases h

/-- A check passes with its key, its signature and its tables met. -/
theorem manifestCheck_pass (h : manifestCheck f input copy content = .pass m bs) :
    keyFailure f bs = none ∧ signatureOk bs = true ∧ checkTables f input content bs = .pass m bs := by
  unfold manifestCheck at h
  extract_lets header image at h
  clear_value image
  split at h
  · split at h
    · cases h
    · split at h
      · obtain ⟨rfl, -⟩ := checkTables_pass h
        exact ⟨‹_›, ‹_›, h⟩
      · cases h
  · cases h

/-- Step 2 passes under an unrevoked root key whose hash is the embedded key's (R83). -/
theorem keyFailure_none (h : keyFailure f bs = none) : ∃ key, f.rootKey (byteAt bs 7) = some key ∧
    key.revoked = false ∧ sha256 (slice bs 24 64) = key.hash := by
  unfold keyFailure at h
  split at h
  · cases h
  · rename_i key hkey
    split at h
    · cases h
    · rename_i hrevoked
      split at h
      · rename_i hmatch
        exact ⟨key, hkey, by simpa using hrevoked, hmatch.1⟩
      · cases h

theorem parseParams_some {p : Params} (h : parseParams bs = some p) :
    p.keyIndex = (byteAt bs 7).toNat ∧ p.securityVersion = numAt bs 10 2 := by
  unfold parseParams at h
  split at h <;> cases h
  exact ⟨rfl, rfl⟩

theorem defaultRuleOf_some {b : Byte} {x : Access} (h : defaultRuleOf b = some x) : x ≠ .openAll := by
  unfold defaultRuleOf at h
  split at h
  · cases h
    simp
  · split at h <;> cases h
    simp

/-- The fields of a parsed manifest that the check's steps read (R191). -/
theorem parseManifest_some {kind : ManifestKind} (h : parseManifest kind bs = some m) :
    m.kind = kind ∧ parseParams bs = some m.params ∧ m.defaultRule ≠ .openAll := by
  unfold parseManifest at h
  extract_lets c at h
  split at h
  · split at h
    · rename_i hparams hrule _ _ _ _ _
      cases h
      exact ⟨rfl, hparams, defaultRuleOf_some hrule⟩
    · cases h
  · cases h

theorem structureOk_tables (h : structureOk f m = true) :
    classesOk f m.classes = true ∧ regionsOk f m.kind m.records = true ∧ areasOk f m.records = true := by
  simp only [structureOk, Bool.and_eq_true] at h
  obtain ⟨⟨⟨⟨⟨hclasses, hregions⟩, hareas⟩, -⟩, -⟩, -⟩ := h
  exact ⟨hclasses, hregions, hareas⟩

/-- What a check has passed meets the table's conditions (R23, R24). -/
theorem manifestCheck_pass_tables (h : manifestCheck f input copy content = .pass m bs) :
    regionsOk f input.kind m.records = true ∧ areasOk f m.records = true ∧ m.defaultRule ≠ .openAll := by
  obtain ⟨-, -, htables⟩ := manifestCheck_pass h
  obtain ⟨-, -, hparse, hstructure⟩ := checkTables_pass htables
  obtain ⟨hkind, -, hrule⟩ := parseManifest_some hparse
  obtain ⟨-, hregions, hareas⟩ := structureOk_tables hstructure
  exact ⟨hkind ▸ hregions, hareas, hrule⟩

end

/-! ## The tables made live (R69, R88, R104) -/

theorem exec_manifestCheckComplete_pass {s : State} {step : SelectStep} {copy content : FlashImage}
    {m : Manifest} {bs : Bytes} (ha : s.alive = true) (hp : s.boot.phase = .selecting)
    (hj : s.job = .selectCheck step)
    (h : manifestCheck s.fuses (s.checkInput step) copy content = .pass m bs) :
    exec (.manifestCheckComplete copy content) s = .next (s.tablesLive step m bs) := by
  change execManifestCheckComplete copy content s = _
  simp only [execManifestCheckComplete, ha, hp, hj, h, if_true]

theorem LineUnit.load_get (u : LineUnit) (cfgs : Vector LineConfig 4) (i : Fin 4) :
    (u.load cfgs).ctl.get i = (u.ctl.get i).load (cfgs.get i) := by
  simp [LineUnit.load, Vector.get_eq_getElem]

/-- A line's role, polarity and level at the load (R104). -/
theorem CtlLine.load_spec (c : CtlLine) (cfg : LineConfig) :
    (c.load cfg).role = some cfg.role ∧ (c.load cfg).polarity = cfg.polarity ∧
    (cfg.role = .scheduleOut ∨ cfg.role = .hostOut →
      (c.load cfg).driven = some (if cfg.polarity = .activeHigh then cfg.initialAsserted
        else !cfg.initialAsserted)) ∧
    (cfg.role = .input ∨ cfg.role = .unused → (c.load cfg).driven = none) ∧
    (cfg.role = .input →
      (c.load cfg).sense = { pinHigh := c.sense.pinHigh, settled := none, timer := true }) := by
  refine ⟨rfl, rfl, fun h => ?_, fun h => ?_, fun h => ?_⟩
  · have hdrives : cfg.role.drives = true := by rcases h with h | h <;> rw [h] <;> rfl
    simp only [CtlLine.load, hdrives, if_true]
    cases cfg.polarity <;> rfl
  · have hdrives : cfg.role.drives = false := by rcases h with h | h <;> rw [h] <;> rfl
    simp [CtlLine.load, hdrives]
  · simp [CtlLine.load, h, Sense.begin]

/-- Settles O10: the passing check's tables in one step, and what its steps have met. -/
theorem passingManifestTablesLive : Obligations.PassingManifestTablesLive := by
  constructor
  · intro s step copy content m bs ha hp hj h
    refine ⟨_, exec_manifestCheckComplete_pass ha hp hj h, rfl, ⟨_, rfl, rfl, rfl, ?_, ?_, ?_, ?_⟩, rfl, rfl,
      rfl, rfl, rfl, rfl, fun i => ?_, rfl, rfl, rfl, rfl, rfl, ?_⟩
    · rintro rfl
      exact ⟨rfl, rfl⟩
    · rintro rfl
      exact ⟨rfl, rfl⟩
    · rintro rfl
      exact ⟨rfl, rfl⟩
    · rintro slot rfl
      exact ⟨rfl, rfl⟩
    · have hget : (s.tablesLive step m bs).lines.ctl.get i = (s.lines.ctl.get i).load (m.lines.get i) :=
        LineUnit.load_get _ _ i
      dsimp only
      rw [hget]
      exact CtlLine.load_spec _ _
    · simp [State.onlyChanges_iff, State.tablesLive]
  · intro f input copy content m bs h
    obtain ⟨hkey, hsignature, htables⟩ := manifestCheck_pass h
    obtain ⟨-, hversion, hparse, hstructure⟩ := checkTables_pass htables
    obtain ⟨hkind, hparams, hrule⟩ := parseManifest_some hparse
    obtain ⟨hindex, hsecurity⟩ := parseParams_some hparams
    obtain ⟨hclasses, hregions, hareas⟩ := structureOk_tables hstructure
    obtain ⟨key, hroot, hrevoked, hhash⟩ := keyFailure_none hkey
    exact ⟨hkind, ⟨key, hroot, hindex, hrevoked, hhash⟩, hsignature, fun hslot => hsecurity ▸ hversion hslot,
      hclasses, hkind ▸ hregions, hareas, hrule⟩

end Sys2Proof.Machine
end

section
/-! PROOFS. The first law at every command (R24). -/

namespace Sys2Proof.Machine

section
variable {s t u : State} {altered : List Field} {b : Booted}

/-! ## The verdict -/

theorem State.restarts.outcome (h : s.restarts t altered) : u.OutcomeStands t := by
  obtain ⟨v, cause, rfl | rfl, -⟩ := h <;> exact .inr fun b hb => nomatch hb

theorem State.stepsTo.outcome (k : s.stepsTo t altered) (hA : .boot ∉ altered) : s.OutcomeStands t :=
  k.elim (fun k => .inl (k _ hA).2) fun k => k.outcome

theorem finishStart_outcome (h : (finishStart s).result = .next t) : s.OutcomeStands t := by
  rcases finishStart_cases s with ⟨v, k, hv⟩ | ⟨v, k, hv⟩ <;> rw [hv] at h <;> cases h
  · exact .inl (k .boot (by simp)).2
  · exact .inr fun b hb => nomatch hb

theorem execStartUpEntries_outcome (h : execStartUpEntries s = .next t) : s.OutcomeStands t := by
  unfold execStartUpEntries at h
  split at h
  · split at h
    · rename_i b _ _ _
      have hwritten := (s.keeps_withEntries b .boot (by simp)).2
      dsimp only at h
      split at h
      · cases h
        exact .inl (by simp [hwritten])
      · exact (finishStart_outcome h).imp_left fun h => h.trans hwritten
    · cases h
  · cases h
    exact .inl rfl

theorem bootCountEffect_outcome (s : State) : s.OutcomeStands (bootCountEffect s) := by
  unfold bootCountEffect
  extract_lets r u
  split
  · split
    · exact .inl (by simp [u])
    · exact .inl (u.keeps_trySelect .boot (by simp)).2
  · exact .inr fun b hb => nomatch hb

theorem markerEffect_outcome {m : WipeMarker} (h : (markerEffect m s).result = .next t) :
    s.OutcomeStands t := by
  unfold markerEffect at h
  extract_lets r u at h
  split at h
  · cases h
    exact .inl (by simp [u])
  · split at h
    · exact finishStart_outcome (s := u) h
    · cases h
      exact .inl rfl

theorem execWriteTakesEffect_outcome (h : execWriteTakesEffect s = .next t) : s.OutcomeStands t := by
  unfold execWriteTakesEffect at h
  split at h
  · split at h
    · rename_i w _
      have k := writeEffect_stepsTo h
      cases w with
      | bootCount =>
        obtain ⟨-, h⟩ := whileSelecting_next h
        cases h
        exact bootCountEffect_outcome (s.setWrite none)
      | markerAdvance =>
        simp only [writeEffect] at h
        split at h
        · exact markerEffect_outcome (s := s.setWrite none) h
        · cases h
      | _ => exact State.stepsTo.outcome (s := s.setWrite none) k (by simp [alteredByWrite])
    · cases h
  · cases h
    exact .inl rfl

/-- A step that leaves records, tables and pins is lawful where the verdict stands. -/
theorem State.lawful.stands (h : s.lawful) (k : s.stepsTo t altered)
    (hA : .regions ∉ altered ∧ .fuses ∉ altered ∧ .host ∉ altered ∧ .port ∉ altered ∧ .pins ∉ altered)
    (ho : s.OutcomeStands t) : t.lawful := by
  obtain ⟨hr, hf, hh, hp, hpins⟩ := hA
  rcases k with k | k
  · exact h.keeps k ⟨hr, hf, hh, hp⟩ (congrArg Pins.hcsAsserted (k _ hpins)) ho
  · exact k.lawful

/-! ## The tables made live -/

/-- The target of a manifest that selection loads is not the slot that runs (R69). -/
theorem State.bootedBy_target (s : State) (step : SelectStep) (params : Params) :
    (s.bootedBy step params).target.run ≠ (s.bootedBy step params).running := by
  have hother : ∀ slot : Slot, slot.other.run ≠ slot.run := fun slot => by
    cases slot <;> simp [Slot.other, Slot.run]
  cases step with
  | pending slot => exact hother slot
  | committed => exact hother _
  | other => exact (hother s.store.slots.committed).symm
  | recovery => cases h : s.store.slots.committed <;> simp [State.bootedBy, State.checkInput, h, Slot.other, Slot.run]

/-- The kind of manifest a step asks for is that of the slot it would run (R81). -/
theorem State.checkInput_kind (s : State) (step : SelectStep) :
    (s.checkInput step).kind = if (s.checkInput step).slot = .r then .recovery else .slot := by
  cases step with
  | pending slot => cases slot <;> rfl
  | committed => cases h : s.store.slots.committed <;> simp [State.checkInput, h, Slot.run]
  | other => cases h : s.store.slots.committed <;> simp [State.checkInput, h, Slot.run, Slot.other]
  | recovery => rfl

theorem tablesLive_sound {step : SelectStep} {copy content : FlashImage} {m : Manifest} {bs : Bytes}
    (h : manifestCheck s.fuses (s.checkInput step) copy content = .pass m bs) :
    (s.tablesLive step m bs).tablesSound := by
  obtain ⟨hregions, hareas, hrule⟩ := manifestCheck_pass_tables h
  intro b hb
  obtain rfl : s.bootedBy step m.params = b := BootOutcome.booted.inj hb
  refine (State.loadedBy_iff _ _).mpr ⟨hb, ?_, hareas, hrule, s.bootedBy_target step m.params⟩
  rw [s.checkInput_kind step] at hregions
  exact hregions

theorem State.afterRejection_outcome (s : State) (step : SelectStep) :
    s.OutcomeStands (s.afterRejection step) := by
  cases step with
  | pending slot => exact .inl rfl
  | committed => exact .inl (State.keeps_enterOther _ .boot (by simp)).2
  | other => exact .inl rfl
  | recovery => exact .inr fun b hb => nomatch hb

theorem execManifestCheckComplete_lawful {copy content : FlashImage} (hs : s.lawful)
    (h : execManifestCheckComplete copy content s = .next t) : t.lawful := by
  unfold execManifestCheckComplete at h
  split at h
  · split at h
    · rename_i step _ _
      obtain ⟨hsound, -, -⟩ := s.lawful_iff.mp hs
      dsimp only at h
      split at h
      · rename_i m bs hpass
        cases h
        have k := s.keeps_tablesLive step m bs
        exact (State.lawful_iff _).mpr ⟨hsound.keeps k (by simp) rfl, tablesLive_sound hpass,
          State.openClear_of_not_forwarded rfl⟩
      · rename_i reason region version _
        rcases recordRejection_flowsTo (s.checkInput step).address reason region s with
          ⟨v, hv, k⟩ | ⟨v, hv, k⟩ <;> rw [hv] at h <;> cases h
        · have hv : v.lawful := hs.stepsTo (.inl k) (by simp)
          exact hv.stands (.inl (v.keeps_afterRejection step)) (by simp) (v.afterRejection_outcome step)
        · exact State.restarts.lawful (s := s) ⟨v, _, .inl rfl, k⟩
    · cases h
  · cases h
    exact hs

/-! ## The host's transaction -/

/-- Nothing is forwarded where the record says that it is not. -/
theorem State.lawful.not_forwarded (h : s.lawful)
    (hs : s.host.phase = .idle ∨ s.host.phase = .instruction ∨
      (s.host.phase = .address ∧ ∃ e, s.host.entry = some e ∧ e.cls.addressed = true)) :
    s.port.openTx.forwarded = false := by
  obtain ⟨⟨-, hundecided, hforwarded⟩, -, -⟩ := s.lawful_iff.mp h
  refine eq_false_of_ne_true fun hf => ?_
  obtain ⟨hidle, hdecision, haddress⟩ := hforwarded hf
  rcases hs with hs | hs | ⟨hs, e, he, hcls⟩
  · exact hidle hs
  · rw [hundecided hs] at hdecision
    cases hdecision
  · simp [haddress hs e he] at hcls

/-- A step of the record alone, with nothing forwarded, is lawful where the record's phase is in order. -/
theorem State.lawful.record (h : s.lawful) (k : s.keeps t [.host, .port])
    (hclosed : t.port.openTx.forwarded = false) (hpins : t.pins = s.pins) (hs : s.host.phase ≠ .idle)
    (hphase : t.host.phase ≠ .instruction) : t.lawful := by
  obtain ⟨⟨hasserted, -, -⟩, htables, -⟩ := s.lawful_iff.mp h
  exact t.lawful_iff.mpr ⟨forwardingSound_of_not_forwarded (fun _ => hpins ▸ hasserted hs)
    (fun hp => absurd hp hphase) hclosed, htables.keeps k (by simp) (by simp) (.inl (k .boot (by simp)).2),
    State.openClear_of_not_forwarded hclosed⟩

theorem ClassEntry.afterAddress_phase (e : ClassEntry) :
    e.afterAddress = .dummy ∨ e.afterAddress = .data ∨ e.afterAddress = .trail := by
  unfold ClassEntry.afterAddress ClassEntry.afterDummy
  split
  · exact .inl rfl
  · split <;> simp

theorem ClassEntry.afterInstruction_phase (e : ClassEntry) :
    e.afterInstruction ≠ .idle ∧ e.afterInstruction ≠ .instruction := by
  unfold ClassEntry.afterInstruction
  split
  · simp
  · rcases e.afterAddress_phase with h | h | h <;> simp [h]

/-- An instruction byte is taken with nothing forwarded, and the record stands in a later phase. -/
theorem State.lawful.takeByte (h : s.lawful) (hp : s.host.phase = .instruction) (b : Byte) :
    (s.takeByte b).lawful ∧ (s.takeByte b).port.openTx.forwarded = false ∧
      (s.takeByte b).host.phase ≠ .idle ∧ (s.takeByte b).host.phase ≠ .instruction := by
  have hclosed := h.not_forwarded (.inr (.inl hp))
  obtain ⟨hidle, hinstruction⟩ := (s.classify b).afterInstruction_phase
  exact ⟨h.record ((s.keeps_takeByte b).mono (by simp)) hclosed rfl (by simp [hp]) hinstruction, hclosed, hidle,
    hinstruction⟩

theorem State.lawful.setDecision (h : s.lawful) (hclosed : s.port.openTx.forwarded = false)
    (hp : s.host.phase ≠ .idle ∧ s.host.phase ≠ .instruction) (d : Decision) : (s.setDecision d).lawful :=
  h.record ((s.keeps_setDecision d).mono (by simp)) hclosed rfl hp.1 hp.2

theorem lawful_of_denied {admitted : InstrClass → Bool} {b : Byte} {d : Decision} {i : State → Incident}
    (hs : s.lawful)
    (h : onInstruction admitted b s (fun v => (logIncident (i v) (v.setDecision d)).result) = .next t) :
    t.lawful := by
  rcases onInstruction_next h with rfl | ⟨hp, -, h⟩
  · exact hs
  · obtain ⟨htaken, hclosed, hphase⟩ := hs.takeByte hp b
    exact (htaken.setDecision hclosed hphase d).stepsTo ((logIncident_flowsTo _ _).of_result h) (by simp)

/-- A transaction opened for the host: its decision is FORWARD, and its address, if it has one, is complete. -/
theorem State.lawful.openForwarded (h : s.lawful) {k : HostRecord} (physical : Option Nat)
    (hentry : k.entry = s.host.entry) (hd : k.decision = some .forward) (hs : s.host.phase ≠ .idle)
    (hphase : k.phase ≠ .idle ∧ k.phase ≠ .instruction)
    (haddress : k.phase = .address → ∀ e, s.host.entry = some e → e.cls.addressed = false)
    (hclear : ∀ e p, physical = some p → s.host.entry = some e → s.mayOpen e.cls p) :
    ((s.setHost k).openForwarded physical).lawful := by
  obtain ⟨⟨hasserted, -, -⟩, htables, -⟩ := s.lawful_iff.mp h
  refine (State.lawful_iff _).mpr ⟨⟨fun _ => hasserted hs, fun hp => absurd hp hphase.2, fun _ => ⟨hphase.1, hd, ?_⟩⟩,
    htables, ?_⟩
  · exact fun hp e he => haddress hp e (hentry ▸ he)
  · intro b hb byte lanes p last e reached hopen he hreach
    obtain ⟨-, -, hphysical, -⟩ : _ ∧ _ ∧ physical = some p ∧ _ := by simpa using hopen
    exact hclear e p hphysical (hentry ▸ he) b reached (htables b hb) hreach

theorem lawful_of_unexamined {k : InstrClass} {b : Byte} {held : Decision} (hk : k.addressed = false)
    (hs : s.lawful) (h : onInstruction (isClass k) b s (forwardUnexamined held) = .next t) : t.lawful := by
  rcases onInstruction_next h with rfl | ⟨hp, hcls, h⟩
  · exact hs
  · obtain ⟨htaken, hclosed, hphase⟩ := hs.takeByte hp b
    unfold forwardUnexamined at h
    split at h
    · exact (htaken.setDecision hclosed hphase held).stepsTo ((logPortHeld_flowsTo _ _).of_result h) (by simp)
    · cases h
      refine htaken.openForwarded (k := { (s.takeByte b).host with decision := some .forward }) none rfl rfl hphase.1
        hphase (fun _ e he => ?_) (fun e p hnone => nomatch hnone)
      cases he
      rwa [show (s.classify b).cls = k by simpa [isClass] using hcls]

theorem lawful_of_address {cls : InstrClass} {address : Bytes} {decide : ClassEntry → Nat → State → Flow}
    (hcls : cls.addressed = true) (hs : s.lawful)
    (h : onAddress cls address s (fun e a v => (decide e a v).result) = .next t)
    (hdecide : ∀ e a (v : State), v.decides (decide e a v) (v.mayOpen cls)) : t.lawful := by
  rcases onAddress_next h with rfl | ⟨e, hp, he, hecls, -, h⟩
  · exact hs
  · have hclosed := hs.not_forwarded (.inr (.inr ⟨hp, e, he, hecls ▸ hcls⟩))
    have hlate : e.afterAddress ≠ .idle ∧ e.afterAddress ≠ .instruction ∧ e.afterAddress ≠ .address := by
      rcases e.afterAddress_phase with h | h | h <;> simp [h]
    have haddressed : (s.addressed e address).lawful :=
      hs.record (by simp [State.keeps_iff, State.addressed]) hclosed rfl (by simp [hp]) hlate.2.1
    rcases hdecide e (ofBe address % s.flashSize) (s.addressed e address) with
      ⟨k, hk, hflow⟩ | ⟨k, p, hk, hd, hopens, hf⟩
    · have hdecided : ((s.addressed e address).setHost k).lawful :=
        haddressed.record (by simp [State.keeps_iff]) hclosed rfl hlate.1 (by
          rw [State.setHost_host, hk.phase]
          exact hlate.2.1)
      exact hdecided.stepsTo (hflow.of_result h) (by simp)
    · rw [hf] at h
      cases h
      have hkphase : k.phase = e.afterAddress := hk.phase
      refine haddressed.openForwarded (some p) hk.entry hd hlate.1 (hkphase ▸ ⟨hlate.1, hlate.2.1⟩)
        (fun h => absurd (hkphase ▸ h) hlate.2.2) fun e' q hq he' => ?_
      cases hq
      obtain rfl : e = e' := Option.some_inj.mp (he.symm.trans he')
      rwa [hecls]

/-! ## HCS_N, the supply and RESET_N -/

theorem State.lawful.tables (h : s.lawful) : s.tablesSound := (s.lawful_iff.mp h).2.1

theorem execHostTransactionBegin_lawful (hs : s.lawful) (h : execHostTransactionBegin s = .next t) :
    t.lawful := by
  obtain ⟨⟨hasserted, hundecided, -⟩, htables, -⟩ := s.lawful_iff.mp hs
  unfold execHostTransactionBegin at h
  split at h
  · cases h
  · rename_i hreleased
    have hidle : s.host.phase = .idle := by
      by_contra hp
      exact hreleased (hasserted hp)
    have hclosed := hs.not_forwarded (.inl hidle)
    have hbegun : ∀ v : State, v.pins.hcsAsserted = true → v.port = s.port →
        (v.host.phase = .instruction → v.host.decision = none) → v.tablesSound → v.lawful :=
      fun v hpins hport hd htables => by
        have hclosed : v.port.openTx.forwarded = false := by rw [hport, hclosed]
        exact v.lawful_iff.mpr ⟨forwardingSound_of_not_forwarded (fun _ => hpins) hd hclosed, htables,
          State.openClear_of_not_forwarded hclosed⟩
    dsimp only at h
    split at h
    · cases h
      exact hbegun _ rfl rfl (fun _ => rfl) htables
    · split at h <;> cases h
      · exact hbegun _ rfl rfl (fun _ => rfl) htables
      · exact hbegun _ rfl rfl hundecided htables

theorem State.lawful.engineTurn (h : s.lawful) : s.engineTurn.lawful :=
  h.stepsTo (.inl (s.keeps_engineTurn (altered := []))) (by simp)

theorem execHostTransactionEnd_lawful (hs : s.lawful) (h : execHostTransactionEnd s = .next t) :
    t.lawful := by
  unfold execHostTransactionEnd at h
  split at h <;> cases h
  refine State.lawful.engineTurn ((State.lawful_iff _).mpr ⟨?_, hs.tables, ?_⟩)
  · exact forwardingSound_of_not_forwarded (fun hp => absurd rfl hp) (fun hp => nomatch hp)
      (FlashPort.closeHost_forwarded _)
  · exact State.openClear_of_not_forwarded (FlashPort.closeHost_forwarded _)

theorem execSupplyRise_lawful (hs : s.lawful) (h : execSupplyRise s = .next t) : t.lawful := by
  rcases execSupplyRise_stepsTo h with k | k
  · unfold execSupplyRise at h
    split at h
    · cases h
    · split at h <;> cases h
      · exact lawful_of_released (u := s) rfl rfl rfl hs.tables
      · exact State.restarts.lawful (s := s) (altered := [.pins]) ⟨_, _, .inl rfl, by simp [State.keeps_iff]⟩
  · exact k.lawful

theorem execResetNAssert_lawful (hs : s.lawful) (h : execResetNAssert s = .next t) : t.lawful := by
  unfold execResetNAssert at h
  split at h
  · cases h
  · dsimp only at h
    split at h <;> cases h
    · exact lawful_of_released (u := s) rfl rfl rfl hs.tables
    · exact hs.keeps (altered := [.pins]) (by simp [State.keeps_iff]) (by simp) rfl (.inl rfl)

theorem execSupplyFall_lawful (h : execSupplyFall s = .next t) : t.lawful := by
  unfold execSupplyFall at h
  split at h <;> cases h
  exact State.restarts.lawful (s := s) (altered := [.pins]) ⟨_, _, .inr rfl, by simp [State.keeps_iff]⟩

theorem execResetNRelease_lawful (hs : s.lawful) (h : execResetNRelease s = .next t) : t.lawful := by
  unfold execResetNRelease at h
  split at h
  · dsimp only at h
    split at h <;> cases h
    · exact State.restarts.lawful (s := s) (altered := [.pins]) ⟨_, _, .inl rfl, by simp [State.keeps_iff]⟩
    · exact hs.keeps (altered := [.pins]) (by simp [State.keeps_iff]) (by simp) rfl (.inl rfl)
  · cases h

/-! ## Every command -/

theorem exec_lawful {c : Instr} (hs : s.lawful) (h : exec c s = .next t) : t.lawful := by
  cases c with
  | deny b =>
    exact lawful_of_denied (admitted := isClass .deny) (d := .fill)
      (i := fun v => v.hostIncident .instrDenied noRegion Detail.none 0) hs h
  | eraseAll b =>
    exact lawful_of_denied (admitted := isClass .eraseAll) (d := .refuse)
      (i := fun v => v.hostIncident .writeRefused noRegion Detail.eraseAll 0) hs h
  | instructionByte b =>
    rcases onInstruction_next h with rfl | ⟨hp, -, h⟩
    · exact hs
    · cases h
      exact (hs.takeByte hp b).1
  | pass b | writeEnable b | writeDisable b | statusRead b => exact lawful_of_unexamined rfl hs h
  | read address => exact lawful_of_address rfl hs h decideRead_mayOpen
  | program address => exact lawful_of_address rfl hs h decideProgram_mayOpen
  | erase4k address =>
    exact lawful_of_address rfl hs ((execErase4k_eq _ _).symm.trans h) decideErase4k_mayOpen
  | erase32k address => exact lawful_of_address rfl hs h decideErase32k_mayOpen
  | erase64k address => exact lawful_of_address rfl hs h decideErase64k_mayOpen
  | hostTransactionBegin => exact execHostTransactionBegin_lawful hs h
  | hostTransactionEnd => exact execHostTransactionEnd_lawful hs h
  | supplyRise => exact execSupplyRise_lawful hs h
  | supplyFall => exact execSupplyFall_lawful h
  | resetNAssert => exact execResetNAssert_lawful hs h
  | resetNRelease => exact execResetNRelease_lawful hs h
  | manifestCheckComplete copy content => exact execManifestCheckComplete_lawful hs h
  | startUpEntries =>
    exact hs.stands (exec_stepsTo (c := .startUpEntries) h) (by simp [alteredBy]) (execStartUpEntries_outcome h)
  | writeTakesEffect =>
    exact hs.stands (exec_stepsTo (c := .writeTakesEffect) h) (by simp [alteredBy]) (execWriteTakesEffect_outcome h)
  | _ => exact hs.stepsTo (exec_stepsTo h) (by simp [alteredBy])

end

/-- Settles O60: a passing check makes a sound table live, tightening and blown fuses leave it sound, and the host's
transactions are opened where `State.mayOpen` says. -/
theorem stepKeepsTheFirstLaw : Obligations.StepKeepsTheFirstLaw :=
  fun _ _ => step_preserves (fun _ _ h => h)
    (fun s h => State.lawful.stepsTo h (.inl s.keeps_tick) (by simp)) (fun _ _ _ => exec_lawful)

end Sys2Proof.Machine
end

section
/-! PROOFS. The step, the state after reset, and what begins a start (R68, R70, R71). -/

namespace Sys2Proof.Machine

/-- Settles O1. -/
theorem stepRunsTheFrontCommand : Obligations.StepRunsTheFrontCommand := by
  intro c rest s h
  simp only [step, h]

/-! ## The state after reset -/

/-- Settles O3: the reset state is written out, and its fuses pass R72. -/
theorem resetIsAFactoryPartStarting : Obligations.ResetIsAFactoryPartStarting :=
  ⟨rfl, rfl, rfl, rfl, rfl, rfl, rfl, rfl, rfl, rfl, rfl, rfl, rfl, rfl, rfl, rfl, rfl, rfl, rfl, rfl, rfl, rfl, rfl,
    rfl, by decide⟩

/-- Settles O4: at reset nothing is on the bus, in the log or in the stack, and no manifest is loaded. -/
theorem resetMeetsTheInvariants : Obligations.ResetMeetsTheInvariants := by
  have hclosed : State.reset.port.openTx.forwarded = false := rfl
  refine ⟨fun _ => ⟨rfl, (fun e he => nomatch he), rfl⟩, ⟨by decide, by decide, .inl rfl, fun h => nomatch h⟩,
    ⟨by decide, by decide, rfl⟩, ⟨rfl, fun v h => nomatch h⟩, ?_, ?_⟩
  · exact (State.stackShaped_iff _).mpr ⟨Stack.start_shaped, .inl rfl, fun _ h => by rcases h with h | h <;> cases h⟩
  · exact (State.lawful_iff _).mpr ⟨forwardingSound_of_not_forwarded (fun h => absurd rfl h) (fun h => nomatch h)
      hclosed, (fun b hb => nomatch hb), State.openClear_of_not_forwarded hclosed⟩

/-! ## A start's values (R70) -/

/-- L1 to L4 without a role at their fuse levels (R68, R70 item 1). -/
theorem State.linesHeld_get (s : State) (i : Fin 4) :
    s.linesHeld.ctl.get i = CtlLine.start (s.fuses.powerUp.get i) (s.lines.ctl.get i).sense.pinHigh := by
  simp [State.linesHeld, Vector.get_eq_getElem, CtlLine.toFuseLevel]

theorem State.linesHeld_ctl (s : State) (i : Fin 4) :
    (s.linesHeld.ctl.get i).role = none ∧ (s.linesHeld.ctl.get i).driven = some (s.fuses.powerUp.get i) := by
  rw [s.linesHeld_get i]
  exact ⟨rfl, rfl⟩

/-- The record after a start or an assertion of RESET_N, by HCS_N (R21, R68). -/
theorem State.hostAbandoned_eq (s : State) : s.hostAbandoned =
    { HostRecord.idle with phase := if s.pins.hcsAsserted then .abandoned else .idle } := by
  unfold State.hostAbandoned
  split <;> rfl

theorem Vector.get_replicate {α : Type} {n : Nat} (x : α) (i : Fin n) : (Vector.replicate n x).get i = x := by
  simp [Vector.get_eq_getElem]

/-- Settles O5: each block's start value, block by block. -/
theorem startGivesEveryBlockItsStartValue : Obligations.StartGivesEveryBlockItsStartValue := by
  intro s cause t
  have hlog : t.log.ring = (if cause = .coldPower ∨ cause = .coldPin then [] else s.log.ring) ∧
      t.log.seq = (if cause = .coldPower ∨ cause = .coldPin then 0 else s.log.seq) ∧
      ∀ k : Fin 14, t.log.counters.get k = 0 ∧ t.log.thresholds.get k = 0 := by
    have hzero : ∀ k : Fin 14, (Vector.replicate 14 (0 : BitVec 16)).get k = 0 := Vector.get_replicate 0
    cases cause <;> exact ⟨rfl, rfl, fun k => ⟨hzero k, hzero k⟩⟩
  exact ⟨⟨rfl, s.linesHeld_ctl⟩, ⟨rfl, rfl⟩, ⟨rfl, rfl, rfl⟩, s.hostAbandoned_eq, rfl, rfl,
    ⟨rfl, rfl, rfl, rfl, rfl, rfl, rfl⟩, ⟨rfl, rfl, rfl, rfl, rfl⟩, ⟨rfl, rfl, rfl, rfl⟩,
    ⟨rfl, Vector.get_replicate MeasEntry.start⟩, rfl, ⟨rfl, rfl⟩, rfl, ⟨rfl, rfl, rfl⟩, hlog, rfl, rfl, rfl, rfl, rfl,
    rfl, rfl⟩

/-! ## What begins a start (R68, R71, R103) -/

theorem exec_reboot {s : State} (h : s.offers .reboot = true) :
    exec .reboot s = .next (s.beginStart .warmRequest) := by
  change execReboot s = _
  rw [execReboot, takeRequest_of_offers h]
  rfl

/-- The part's own steps change nothing while it does not run (assumptions 14 and 15). -/
theorem exec_part_held {c : Instr} {s : State} (hc : Source.of c = .part) (h : s.alive = false) :
    exec c s = .next s := by
  have hn : ¬s.alive = true := by simp [h]
  cases c with
  | hostTransactionBegin | hostTransactionEnd | supplyRise | supplyFall | resetNAssert | resetNRelease
  | linePinChange _ _ | lineSettlingExpiry _ | deny _ | eraseAll _ | pass _ | writeEnable _ | writeDisable _
  | statusRead _ | read _ | program _ | erase4k _ | erase32k _ | erase64k _ | readStreamByte _
  | programDataByte _ | instructionByte _ => cases hc
  | _ => exact if_neg hn

/-- Without the supply nothing receives the host's bytes (assumption 15). -/
theorem exec_host_unpowered {c : Instr} {s : State} (hc : Source.of c = .host) (h : s.pins.supply = false) :
    exec c s = .next s := by
  have hn : ¬s.pins.supply = true := by simp [h]
  cases c with
  | deny _ | eraseAll _ | pass _ | writeEnable _ | writeDisable _ | statusRead _ | instructionByte _ =>
    exact if_neg hn
  | read _ | program _ | erase4k _ | erase32k _ | erase64k _ => exact if_neg hn
  | readStreamByte _ | programDataByte _ => exact if_neg hn
  | _ => cases hc

/-- Settles O6: each event in turn, then the steps of a part that does not run. -/
theorem startsAndTheirPins : Obligations.StartsAndTheirPins := by
  refine ⟨fun s hsupply hreset => ?_, fun s hsupply hreset => ?_, fun s h => exec_reboot h,
    fun s n ha hd hn => ?_, fun s ha hd => ?_, fun s hsupply hreset => ?_, fun s hsupply => ?_,
    fun s hsupply hreset => ?_, fun c s => exec_part_held, fun c s => exec_host_unpowered⟩
  · change execSupplyRise s = _
    simp only [execSupplyRise, hsupply, hreset, Bool.false_eq_true, if_false]
  · change execResetNRelease s = _
    simp only [execResetNRelease, hsupply, hreset, if_true]
  · refine ⟨s.recordIncident (plainIncident .deadlineExpired noRegion Detail.none 0), ?_,
      by simp [State.onlyChanges_iff, State.recordIncident], rfl⟩
    change execDeadlineExpiry s = _
    simp only [execDeadlineExpiry, ha, hd, hn, if_true]
  · change execDeadlineExpiry s = _
    rcases hd with hd | ⟨n, hn, hd⟩
    · simp only [execDeadlineExpiry, ha, hd, if_true]
    · simp only [execDeadlineExpiry, ha, hd, if_true, show ¬n ≤ 1 by omega, if_false]
  · have hexec : exec .resetNAssert s
        = .next (s.setPins { s.pins with resetAsserted := true }).heldByReset := by
      change execResetNAssert s = _
      simp only [execResetNAssert, hsupply, hreset, Bool.false_eq_true, if_false, if_true]
    refine ⟨_, hexec, by simp [State.onlyChanges_iff, State.heldByReset], rfl, rfl, rfl,
      (s.setPins { s.pins with resetAsserted := true }).linesHeld_ctl, rfl, ?_, rfl, rfl, rfl⟩
    exact (s.setPins { s.pins with resetAsserted := true }).hostAbandoned_eq
  · have hexec : exec .supplyFall s = .next
        ((s.setPins { s.pins with supply := false, coldPowerDue := false }).volatileAtStart .coldPower) := by
      change execSupplyFall s = _
      simp only [execSupplyFall, hsupply, if_true]
    exact ⟨_, hexec, rfl, rfl, (s.setPins _).linesHeld_ctl, rfl, (s.setPins _).hostAbandoned_eq, rfl, rfl, rfl, rfl,
      rfl, rfl⟩
  · have hexec : exec .supplyRise s = .next
        ((((s.setPins { s.pins with supply := true, coldPowerDue := true }).setLines
          (s.setPins { s.pins with supply := true, coldPowerDue := true }).linesHeld).setHost
            (s.setPins { s.pins with supply := true, coldPowerDue := true }).hostAbandoned).setPort
              { s.port with openTx := .none }) := by
      change execSupplyRise s = _
      simp only [execSupplyRise, hsupply, hreset, Bool.false_eq_true, if_false, if_true, State.setPins_port]
    exact ⟨_, hexec, by simp [State.onlyChanges_iff], rfl, rfl, rfl, (s.setPins _).linesHeld_ctl, rfl,
      (s.setPins _).hostAbandoned_eq⟩

end Sys2Proof.Machine
end

section
/-! PROOFS. Chapter 5: the actions, the sequence and the watch list; sensed lines and SET_LINES. -/

namespace Sys2Proof.Machine

/-! ## Frames, one after the other -/

section
variable {s t u : State} {changed more : List Field}

theorem State.onlyChanges.trans (h : s.onlyChanges t changed) (k : t.onlyChanges u changed) :
    s.onlyChanges u changed := by
  rw [State.onlyChanges_iff] at *
  simp_all

theorem State.onlyChanges.mono (h : s.onlyChanges t changed) (hm : changed ⊆ more) : s.onlyChanges t more :=
  fun f hf => h f fun k => hf (hm k)

end

/-! ## Actions (R98 to R102) -/

section
variable {s t : State} {a : Action}

/-- L1 to L4 after a LINE_SET (R99). -/
theorem State.lineSet_get (s : State) (line : Line) (asserted : Bool) (i : Fin 4) :
    (s.lineSet line asserted).lines.ctl.get i =
      if lineIndex line = some i ∧ (s.lines.ctl.get i).role = some .scheduleOut then
        { s.lines.ctl.get i with
          driven := some (if (s.lines.ctl.get i).polarity = .activeHigh then asserted else !asserted) }
      else s.lines.ctl.get i := by
  unfold State.lineSet
  cases hline : lineIndex line with
  | none => simp
  | some j =>
    have hlevel : ∀ p : Polarity, p.electrical asserted = if p = .activeHigh then asserted else !asserted :=
      fun p => by cases p <;> rfl
    simp only [State.setCtl_get, CtlLine.drive, hlevel, Option.some.injEq]
    by_cases hij : j = i
    · subst hij
      simp
    · simp [hij]

theorem State.lineSet_onlyChanges (s : State) (line : Line) (asserted : Bool) :
    s.onlyChanges (s.lineSet line asserted) [.lines] ∧
      (s.lineSet line asserted).lines.l0Asserted = s.lines.l0Asserted ∧
      (s.lineSet line asserted).lines.l5 = s.lines.l5 := by
  unfold State.lineSet
  split
  · exact ⟨by simp [State.onlyChanges_iff, State.setCtl], rfl, rfl⟩
  · exact ⟨.refl s _, rfl, rfl⟩

/-- A table after a TIGHTEN: the record at the index takes a stricter level (R47). -/
theorem State.tighten_records (s : State) (i : Nat) (level : Tightening) {j : Nat} {r : RegionRecord}
    (hr : s.regions.records[j]? = some r) :
    (s.tighten i level).regions.records[j]? =
      some (if j = i ∧ r.tight.rank < level.rank then { r with tight := level } else r) := by
  unfold State.tighten
  by_cases hj : j = i
  · subst hj
    simp only [hr]
    split <;> simp_all [State.setTightening]
  · split
    · split <;> simp_all [State.setTightening, Ne.symm hj]
    · simp [hr, hj]

theorem State.tighten_onlyChanges (s : State) (i : Nat) (level : Tightening) :
    s.onlyChanges (s.tighten i level) [.regions] ∧
      (s.tighten i level).regions.defaultRule = s.regions.defaultRule := by
  unfold State.tighten
  split
  · split
    · exact ⟨by simp [State.onlyChanges_iff, State.setTightening], rfl⟩
    · exact ⟨.refl s _, rfl⟩
  · exact ⟨.refl s _, rfl⟩

theorem runActions_append (before after : List Action) : ∀ s : State,
    runActions s (before ++ after) = (runActions s before).andThen fun t => runActions t after := by
  induction before with
  | nil => exact fun s => rfl
  | cons a rest ih =>
    intro s
    simp only [List.cons_append, runActions]
    cases runAction s a with
    | on t => exact ih t
    | restarted t => rfl

theorem runActions_singleton (s : State) (a : Action) : runActions s [a] = runAction s a := by
  simp only [runActions]
  cases runAction s a <;> rfl

/-- Actions change these blocks, and of the schedule the deadline. -/
theorem runAction_frame (h : runAction s a = .on t) :
    s.onlyChanges t [.lines, .cred, .regions, .schedule] ∧
      t.schedule = { s.schedule with deadline := t.schedule.deadline } := by
  cases a with
  | lineSet line asserted =>
    cases h
    obtain ⟨k, -, -⟩ := s.lineSet_onlyChanges line asserted
    have hschedule : (s.lineSet line asserted).schedule = s.schedule := k .schedule (by simp)
    exact ⟨k.mono (by simp), by rw [hschedule]⟩
  | tighten i level =>
    cases h
    obtain ⟨k, -⟩ := s.tighten_onlyChanges i level
    have hschedule : (s.tighten i level).schedule = s.schedule := k .schedule (by simp)
    exact ⟨k.mono (by simp), by rw [hschedule]⟩
  | reboot => cases h
  | freezeStore | lockStore | deadlineStart | deadlineStop =>
    cases h
    exact ⟨by simp [State.onlyChanges_iff, State.setDeadline], rfl⟩

theorem runAction_on (h : a ≠ .reboot) (s : State) : ∃ t, runAction s a = .on t := by
  cases a with
  | reboot => exact absurd rfl h
  | _ => exact ⟨_, rfl⟩

/-- Without a REBOOT actions go on; with one they end in its start (R98, R101). -/
theorem runActions_frame (actions : List Action) : ∀ s : State,
    (Action.reboot ∉ actions → ∃ t, runActions s actions = .on t ∧
      s.onlyChanges t [.lines, .cred, .regions, .schedule] ∧
      t.schedule = { s.schedule with deadline := t.schedule.deadline }) ∧
    (Action.reboot ∈ actions → ∃ u, runActions s actions = .restarted (u.beginStart .warmSchedule) ∧
      s.onlyChanges u [.lines, .cred, .regions, .schedule]) := by
  induction actions with
  | nil => exact fun s => ⟨fun _ => ⟨s, rfl, .refl s _, rfl⟩, fun h => by simp at h⟩
  | cons a rest ih =>
    intro s
    by_cases ha : a = .reboot
    · subst ha
      exact ⟨fun h => by simp at h, fun _ => ⟨s, rfl, .refl s _⟩⟩
    · obtain ⟨t, ht⟩ := runAction_on ha s
      obtain ⟨hframe, hschedule⟩ := runAction_frame ht
      obtain ⟨hon, hstart⟩ := ih t
      have hrest : runActions s (a :: rest) = runActions t rest := by simp only [runActions, ht, Flow.on_andThen]
      refine ⟨fun h => ?_, fun h => ?_⟩
      · obtain ⟨u, hu, k, hk⟩ := hon fun hr => h (List.mem_cons_of_mem _ hr)
        exact ⟨u, hrest.trans hu, hframe.trans k, by rw [hk, hschedule]⟩
      · obtain ⟨u, hu, k⟩ := hstart ((List.mem_cons.mp h).resolve_left (Ne.symm ha))
        exact ⟨u, hrest.trans hu, hframe.trans k⟩

end

/-- Settles O13: action by action, then lists of them. -/
theorem actionsTakeEffect : Obligations.ActionsTakeEffect := by
  refine ⟨fun s line asserted => ?_, fun s i level => ?_, fun s n => ⟨_, rfl, ?_, rfl⟩, fun s => ⟨_, rfl, ?_, rfl⟩,
    fun s => rfl, fun s before after => ?_, runActions_singleton, fun s actions => (runActions_frame actions s).1,
    fun s actions => (runActions_frame actions s).2⟩
  · obtain ⟨k, hl0, hl5⟩ := s.lineSet_onlyChanges line asserted
    exact ⟨_, rfl, k, hl0, hl5, s.lineSet_get line asserted⟩
  · obtain ⟨k, hdefault⟩ := s.tighten_onlyChanges i level
    exact ⟨_, rfl, k, hdefault, runAction_records_length (a := .tighten i level) rfl,
      fun j r hr => s.tighten_records i level hr⟩
  · simp [State.onlyChanges_iff, State.setDeadline]
  · simp [State.onlyChanges_iff, State.setDeadline]
  · rw [runActions_append]
    cases runActions s before <;> rfl

/-! ## The sequence and the watch list (R93 to R97) -/

theorem Schedule.waiting_iff (c : Schedule) (e : SeqEntry) :
    c.waiting = some e ↔ c.sequence[c.cursor]? = some e ∧ e.trigger ≠ .endMark := by
  unfold Schedule.waiting
  split
  · rename_i e' he
    split <;> simp_all <;> rintro rfl <;> assumption
  · simp_all

/-- A trigger that names the waiting entry runs its actions and then advances the cursor (R94, R95). -/
theorem offerSequence_fires {trigger : SeqTrigger} {s : State} {e : SeqEntry}
    (he : s.schedule.waiting = some e) (ht : e.trigger = trigger) :
    offerSequence trigger s = (runActions s e.actions).andThen fun t =>
      .on (t.setSchedule { t.schedule with cursor := t.schedule.cursor + 1 }) := by
  simp [offerSequence, he, ht]

/-- What an entry that may fire on a trigger does (R97). -/
def fireEntry (trigger : WatchTrigger) (watch : List WatchEntry) (flow : Flow) (i : Nat) : Flow :=
  match flow, watch[i]? with
  | .on t, some e =>
    if e.trigger = trigger ∧ (e.mode = .every ∨ e.fired = false) then
      runActions { t with schedule := { t.schedule with
        watch := t.schedule.watch.set i { e with fired := true } } } e.actions
    else .on t
  | flow, _ => flow

theorem WatchEntry.firesOn_iff (e : WatchEntry) (trigger : WatchTrigger) :
    e.firesOn trigger = true ↔ e.trigger = trigger ∧ (e.mode = .every ∨ e.fired = false) := by
  cases hm : e.mode <;> simp [WatchEntry.firesOn, hm]

/-- Actions that go on leave the watch list, the sequence and the cursor. -/
theorem runActions_on_schedule {s t : State} {actions : List Action} (h : runActions s actions = .on t) :
    t.schedule = { s.schedule with deadline := t.schedule.deadline } := by
  obtain ⟨hon, hstart⟩ := runActions_frame actions s
  by_cases hr : Action.reboot ∈ actions
  · obtain ⟨u, hu, -⟩ := hstart hr
    simp [h] at hu
  · obtain ⟨u, hu, -, hk⟩ := hon hr
    rw [h] at hu
    cases hu
    exact hk

theorem modify_at_length {α : Type} (pre : List α) (x : α) (post : List α) (f : α → α) :
    (pre ++ x :: post).modify pre.length f = pre ++ f x :: post := by
  induction pre with
  | nil => rfl
  | cons y pre ih => simpa using ih

/-- A start ends the watch list's turn (R98). -/
theorem foldl_fireEntry_restarted (trigger : WatchTrigger) (watch : List WatchEntry) (t : State)
    (is : List Nat) : is.foldl (fireEntry trigger watch) (.restarted t) = .restarted t := by
  induction is with
  | nil => rfl
  | cons i is ih => exact ih

/-- The entries from one on, each by what it does (R97). -/
theorem fireFrom_eq_foldl (trigger : WatchTrigger) (entries : List WatchEntry) :
    ∀ (before now : List WatchEntry) (s : State), now.length = before.length →
      s.schedule.watch = now ++ entries →
      fireFrom trigger now.length entries s =
        (List.range' now.length entries.length).foldl (fireEntry trigger (before ++ entries)) (.on s) := by
  induction entries with
  | nil => exact fun _ _ _ _ _ => rfl
  | cons e rest ih =>
    intro before now s hlen hwatch
    have hsplit : ∀ (pre : List WatchEntry) (x : WatchEntry), pre ++ x :: rest = (pre ++ [x]) ++ rest := by simp
    have hentry : (before ++ e :: rest)[now.length]? = some e := by rw [hlen]; simp
    rw [List.length_cons, List.range'_succ, List.foldl_cons]
    simp only [fireFrom, fireEntry, hentry, e.firesOn_iff trigger]
    split
    · have hmark : s.markFired now.length = { s with schedule := { s.schedule with
          watch := s.schedule.watch.set now.length { e with fired := true } } } := by
        simp only [State.markFired, State.setSchedule, hwatch, modify_at_length]
        simp
      rw [hmark]
      cases hrun : runActions { s with schedule := { s.schedule with
          watch := s.schedule.watch.set now.length { e with fired := true } } } e.actions with
      | on t =>
        have hwatch' : t.schedule.watch = (now ++ [{ e with fired := true }]) ++ rest := by
          rw [runActions_on_schedule hrun]
          simp [hwatch]
        have := ih (before ++ [e]) (now ++ [{ e with fired := true }]) t (by simp [hlen]) hwatch'
        rw [← hsplit before e] at this
        simpa using this
      | restarted t => exact (foldl_fireEntry_restarted _ _ _ _).symm
    · have := ih (before ++ [e]) (now ++ [e]) s (by simp [hlen]) (by rw [hwatch, hsplit])
      rw [← hsplit before e] at this
      simpa using this

/-- An entry that a trigger has been raised to bears its mark if it names the trigger (R97). -/
def WatchEntry.marked (trigger : WatchTrigger) (e : WatchEntry) : WatchEntry :=
  if e.trigger = trigger then { e with fired := true } else e

theorem WatchEntry.marked_of_not_fires {trigger : WatchTrigger} {e : WatchEntry}
    (h : e.firesOn trigger ≠ true) : e.marked trigger = e := by
  rw [Ne, e.firesOn_iff trigger, not_and_or, not_or] at h
  unfold WatchEntry.marked
  split
  · obtain ⟨-, hfired⟩ := h.resolve_left (not_not.mpr ‹_›)
    have hmark : e.fired = true := by simpa using hfired
    rw [← hmark]
  · rfl

theorem WatchEntry.marked_of_fires {trigger : WatchTrigger} {e : WatchEntry}
    (h : e.firesOn trigger = true) : e.marked trigger = { e with fired := true } :=
  if_pos ((e.firesOn_iff trigger).mp h).1

theorem fireFrom_marks (trigger : WatchTrigger) (entries : List WatchEntry) :
    ∀ (now : List WatchEntry) (s t : State), s.schedule.watch = now ++ entries →
      fireFrom trigger now.length entries s = .on t →
      t.schedule.sequence = s.schedule.sequence ∧ t.schedule.cursor = s.schedule.cursor ∧
        t.schedule.watch = now ++ entries.map (WatchEntry.marked trigger) := by
  induction entries with
  | nil =>
    intro now s t hwatch h
    cases h
    exact ⟨rfl, rfl, hwatch⟩
  | cons e rest ih =>
    intro now s t hwatch h
    have hnext : ∀ x : WatchEntry, now ++ x :: rest.map (WatchEntry.marked trigger)
        = (now ++ [x]) ++ rest.map (WatchEntry.marked trigger) := by simp
    simp only [fireFrom] at h
    split at h
    · rename_i hfires
      cases hrun : runActions (s.markFired now.length) e.actions with
      | on u =>
        rw [hrun, Flow.on_andThen] at h
        have hu := runActions_on_schedule hrun
        have hwatch' : u.schedule.watch = (now ++ [{ e with fired := true }]) ++ rest := by
          rw [hu]
          simp [State.markFired, hwatch, modify_at_length]
        obtain ⟨hsequence, hcursor, hmarks⟩ := ih (now ++ [{ e with fired := true }]) u t hwatch' (by simpa using h)
        refine ⟨hsequence.trans (by rw [hu]; rfl), hcursor.trans (by rw [hu]; rfl), ?_⟩
        rw [hmarks, List.map_cons, WatchEntry.marked_of_fires hfires, hnext]
      | restarted u =>
        rw [hrun] at h
        cases h
    · obtain ⟨hsequence, hcursor, hmarks⟩ := ih (now ++ [e]) s t (by simp [hwatch]) (by simpa using h)
      refine ⟨hsequence, hcursor, ?_⟩
      rw [hmarks, List.map_cons, WatchEntry.marked_of_not_fires ‹_›, hnext]

/-- Settles O14: the sequence by its waiting entry, the watch list by induction on its entries. -/
theorem sequenceAndWatchListFire : Obligations.SequenceAndWatchListFire := by
  refine ⟨Schedule.waiting_iff, fun _ _ => offerSequence_discards, fun trigger s u e he ht => ⟨fun hrun => ?_,
    fun hrun => ?_⟩, fun trigger s => ?_, fun trigger s t h => ?_⟩
  · rw [offerSequence_fires he ht, hrun]
    rfl
  · refine ⟨u.setSchedule { u.schedule with cursor := u.schedule.cursor + 1 }, ?_,
      by simp [State.onlyChanges_iff], ?_⟩
    · rw [offerSequence_fires he ht, hrun]
      rfl
    · rw [State.setSchedule_schedule, runActions_on_schedule hrun]
  · rw [List.range_eq_range']
    exact fireFrom_eq_foldl trigger s.schedule.watch [] [] s rfl rfl
  · exact fireFrom_marks trigger s.schedule.watch [] s t rfl h

/-! ## SET_LINES (R108) -/

theorem exec_setLines {s : State} (h : s.offers .setLines = true) :
    exec .setLines s = .next
      ((s.setLines (s.applyLevels (byteAt s.window.requestBody 0) (byteAt s.window.requestBody 1))).respond .ok
        (s.appliedMask (byteAt s.window.requestBody 0) ::
          (s.applyLevels (byteAt s.window.requestBody 0) (byteAt s.window.requestBody 1)).report)) := by
  change execSetLines s = _
  rw [execSetLines, takeRequest_of_offers h]
  rfl

theorem State.appliesTo_iff (s : State) (mask : Byte) (i : Fin 4) :
    s.appliesTo mask i = true ↔ mask.getLsbD (i.val + 1) = true ∧ (s.lines.ctl.get i).role = some .hostOut := by
  simp [State.appliesTo]

theorem State.applyLevels_get (s : State) (mask levels : Byte) (i : Fin 4) :
    if mask.getLsbD (i.val + 1) ∧ (s.lines.ctl.get i).role = some .hostOut then
      (s.applyLevels mask levels).ctl.get i = { s.lines.ctl.get i with
        driven := some ((s.lines.ctl.get i).polarity.electrical (levels.getLsbD (i.val + 1))) }
    else (s.applyLevels mask levels).ctl.get i = s.lines.ctl.get i := by
  have hget : (s.applyLevels mask levels).ctl.get i = if s.appliesTo mask i then
      (s.lines.ctl.get i).drive .hostOut (levels.getLsbD (i.val + 1)) else s.lines.ctl.get i := by
    simp [State.applyLevels, Vector.get_eq_getElem]
  rw [hget]
  simp only [s.appliesTo_iff mask i]
  split
  · rename_i happlies
    exact if_pos happlies.2
  · rfl

/-- A byte of four bits in places 1 to 4. -/
theorem bits_one_to_four : ∀ a b c d : Bool,
    let m : Byte := byteOfBool a <<< 1 ||| byteOfBool b <<< 2 ||| byteOfBool c <<< 3 ||| byteOfBool d <<< 4
    m.getLsbD 0 = false ∧ m.getLsbD 5 = false ∧ m.getLsbD 6 = false ∧ m.getLsbD 7 = false ∧
      m.getLsbD 1 = a ∧ m.getLsbD 2 = b ∧ m.getLsbD 3 = c ∧ m.getLsbD 4 = d := by
  decide

/-- Settles O15: by the applied mask's four bits. -/
theorem setLinesDrivesHostOutLines : Obligations.SetLinesDrivesHostOutLines := by
  intro s h mask levels
  obtain ⟨h0, h5, h6, h7, h1, h2, h3, h4⟩ := bits_one_to_four (s.appliesTo mask 0) (s.appliesTo mask 1)
    (s.appliesTo mask 2) (s.appliesTo mask 3)
  refine ⟨_, exec_setLines h, by simp [State.onlyChanges_iff], rfl, rfl, s.applyLevels_get mask levels,
    s.appliedMask mask, ?_, h0, h5, h6, h7, fun i => ?_⟩
  · have hl0 : levelByte s.lines.l0Asserted = if s.lines.l0Asserted then 1 else 0 := by
      cases s.lines.l0Asserted <;> rfl
    rw [← hl0]
    rfl
  · match i with
    | 0 => exact h1
    | 1 => exact h2
    | 2 => exact h3
    | 3 => exact h4

/-! ## Sensed lines (R106, R107) -/

theorem lineIndex_some {line : Line} {i : Fin 4} (h : lineIndex line = some i) : line ≠ .l0 ∧ line ≠ .l5 := by
  constructor <;> rintro rfl <;> cases h

/-- A pin change on one of L1 to L4 (R106). -/
theorem exec_linePinChange_ctl {s : State} {line : Line} {i : Fin 4} (high : Bool)
    (hi : lineIndex line = some i) :
    exec (.linePinChange line high) s = .next (if (s.lines.ctl.get i).sense.pinHigh = high then s
      else s.setCtl i ((s.lines.ctl.get i).pinChanged s.alive high)) := by
  change execLinePinChange line high s = _
  cases line <;> cases hi <;> simp only [execLinePinChange, lineIndex] <;> split <;> rfl

theorem exec_linePinChange_l5 {s : State} (high : Bool) (hs : s.pins.supply = true) :
    exec (.linePinChange .l5 high) s = .next (if s.lines.l5.pinHigh = high then s
      else s.setL5 (s.lines.l5.pinChanged l5Polarity high)) := by
  change execLinePinChange .l5 high s = _
  simp only [execLinePinChange, lineIndex, hs, if_true]
  split <;> rfl

/-- The settling timer of one of L1 to L4 runs out (R106). -/
theorem exec_lineSettlingExpiry_ctl {s : State} {line : Line} {i : Fin 4} (ha : s.alive = true)
    (hi : lineIndex line = some i) (hr : (s.lines.ctl.get i).role = some .input)
    (ht : (s.lines.ctl.get i).sense.timer = true) :
    exec (.lineSettlingExpiry line) s =
      (settledChange line (s.lines.ctl.get i).sense.settled
        ((s.lines.ctl.get i).polarity.level (s.lines.ctl.get i).sense.pinHigh)
        (s.setCtl i { s.lines.ctl.get i with
          sense := (s.lines.ctl.get i).sense.settle (s.lines.ctl.get i).polarity })).result := by
  change execLineSettlingExpiry line s = _
  cases line <;> cases hi <;>
    simp only [execLineSettlingExpiry, lineIndex, ha, CtlLine.sensed, hr, ht, decide_true, Bool.and_true, if_true]

theorem exec_lineSettlingExpiry_l5 {s : State} (ha : s.alive = true) (ht : s.lines.l5.timer = true) :
    exec (.lineSettlingExpiry .l5) s =
      (settledChange .l5 s.lines.l5.settled (!s.lines.l5.pinHigh)
        (s.setL5 { pinHigh := s.lines.l5.pinHigh, settled := some (!s.lines.l5.pinHigh), timer := false })).result := by
  change execLineSettlingExpiry .l5 s = _
  simp only [execLineSettlingExpiry, lineIndex, ha, ht, if_true]
  rfl

/-- A level that settles after another raises LINE (R106). -/
theorem settledChange_again {line : Line} {before : Option Bool} (hb : before ≠ none) (level : Bool) (s : State) :
    settledChange line before level s = fireWatch (.line line level) s := by
  cases before with
  | none => exact absurd rfl hb
  | some x => rfl

/-- The first level of one of L1 to L4 raises nothing (R106). -/
theorem settledChange_first {line : Line} (hl : line ≠ .l5) (level : Bool) (s : State) :
    settledChange line none level s = .on s := by
  cases line with
  | l5 => exact absurd rfl hl
  | _ => rfl

/-- Settles O12: pin changes and settling expiries, of L1 to L4 and of L5. -/
theorem sensedLinesSettle : Obligations.SensedLinesSettle := by
  refine ⟨fun s line i high ha hi hr => ?_, fun s high hs => ?_, fun s line i ha hi hr ht => ?_,
    fun s ha ht hsettled => ?_, fun s hsupply hreset ht => ?_⟩
  · refine ⟨_, exec_linePinChange_ctl high hi, ?_⟩
    by_cases hp : (s.lines.ctl.get i).sense.pinHigh = high
    · rw [if_pos hp]
      refine ⟨.refl s _, rfl, rfl, fun _ _ => rfl, by rw [← hp], fun _ => rfl, fun h => absurd hp h⟩
    · rw [if_neg hp]
      have hsensed : (s.lines.ctl.get i).pinChanged s.alive high = { s.lines.ctl.get i with
          sense := (s.lines.ctl.get i).sense.pinChanged (s.lines.ctl.get i).polarity high } := by
        simp [CtlLine.pinChanged, ha, CtlLine.sensed, hr]
      refine ⟨by simp [State.onlyChanges_iff, State.setCtl], rfl, rfl, fun j hj => by simp [Ne.symm hj], ?_,
        fun h => absurd h hp, fun _ => ?_⟩
      · rw [State.setCtl_get, if_pos rfl, hsensed]
        rfl
      · rw [State.setCtl_get, if_pos rfl, hsensed]
        simp [Sense.pinChanged]
  · refine ⟨_, exec_linePinChange_l5 high hs, ?_⟩
    by_cases hp : s.lines.l5.pinHigh = high
    · rw [if_pos hp]
      exact ⟨.refl s _, rfl, rfl, rfl, hp, fun _ => rfl, fun h => absurd hp h⟩
    · rw [if_neg hp]
      refine ⟨by simp [State.onlyChanges_iff, State.setL5], rfl, rfl, rfl, rfl, fun h => absurd h hp, fun _ => ?_⟩
      exact decide_eq_false_iff_not.trans not_not
  · intro level
    obtain ⟨-, hl5⟩ := lineIndex_some hi
    refine ⟨s.setCtl i { s.lines.ctl.get i with
        sense := (s.lines.ctl.get i).sense.settle (s.lines.ctl.get i).polarity }, _,
      (exec_lineSettlingExpiry_ctl ha hi hr ht).trans (Flow.result_eq _),
      by simp [State.onlyChanges_iff, State.setCtl], rfl, rfl, fun j hj => by simp [Ne.symm hj], ?_, fun hnone => ?_,
      fun hsome => ?_⟩
    · rw [State.setCtl_get, if_pos rfl]
      rfl
    · rw [hnone, settledChange_first hl5]
      rfl
    · rw [settledChange_again hsome]
  · refine ⟨s.setL5 { pinHigh := s.lines.l5.pinHigh, settled := some (!s.lines.l5.pinHigh), timer := false }, ?_,
      by simp [State.onlyChanges_iff, State.setL5], rfl⟩
    rw [exec_lineSettlingExpiry_l5 ha ht, settledChange_again hsettled, Flow.result_eq]
  · have hexec : exec (.lineSettlingExpiry .l5) s = .next (s.setL5 (s.lines.l5.settle l5Polarity)) := by
      change execLineSettlingExpiry .l5 s = _
      simp [execLineSettlingExpiry, State.alive, hreset, settleWhileHeld, hsupply, ht]
    exact ⟨_, hexec, by simp [State.onlyChanges_iff, State.setL5], rfl⟩

end Sys2Proof.Machine
end

section
/-! PROOFS. Chapter 10: what logging an incident does. -/

namespace Sys2Proof.Machine

section
variable (l : IncidentLog) (i : Incident) (k : IncidentKind) (bootCount : BitVec 32)

theorem IncidentLog.append_of_room (h : l.seq ≠ BitVec.allOnes 32) : l.append i bootCount =
    { l with seq := l.seq + 1,
             ring := ringAppend l.ring { seq := l.seq + 1, incident := i, bootCount := bootCount } } :=
  if_neg h

theorem IncidentLog.append_saturated (h : l.seq = BitVec.allOnes 32) : l.append i bootCount = l :=
  if_pos h

@[simp] theorem IncidentLog.append_counters : (l.append i bootCount).counters = l.counters := by
  unfold IncidentLog.append
  split <;> rfl

@[simp] theorem IncidentLog.append_thresholds : (l.append i bootCount).thresholds = l.thresholds := by
  unfold IncidentLog.append
  split <;> rfl

theorem IncidentLog.count_get (j : Fin 14) : (l.count k).counters.get j =
    if k.index = j then satInc (l.counters.get k.index) else l.counters.get j := by
  simp only [IncidentLog.count, Vector.get_eq_getElem, Vector.getElem_set, Fin.ext_iff]

theorem IncidentLog.reaches_iff : l.reaches k = true ↔
    satInc (l.counters.get k.index) ≠ l.counters.get k.index ∧ l.thresholds.get k.index ≠ 0 ∧
      satInc (l.counters.get k.index) = l.thresholds.get k.index := by
  simp only [IncidentLog.reaches, Bool.and_eq_true, decide_eq_true_eq, and_assoc, ne_comm]

end

/-- A sequence counter that is not saturated counts on. -/
theorem toNat_succ_of_ne_allOnes {x : BitVec 32} (h : x ≠ BitVec.allOnes 32) : (x + 1).toNat = x.toNat + 1 := by
  have hne : x.toNat ≠ 2 ^ 32 - 1 := fun k => h (BitVec.eq_of_toNat_eq (by simpa using k))
  have := x.isLt
  rw [BitVec.toNat_add]
  exact Nat.mod_eq_of_lt (by simp; omega)

/-- Settles O53: the incident recorded, then its threshold. -/
theorem loggingAnIncident : Obligations.LoggingAnIncident := by
  intro i s before reached
  have hreaches : s.log.reaches i.kind = true ↔ reached := s.log.reaches_iff i.kind
  refine ⟨s.recordIncident i, by simp [State.onlyChanges_iff, State.recordIncident], ?_, ?_, fun k hk => ?_,
    fun hseq => ⟨?_, ?_⟩, fun hseq => ?_, fun hr => ?_, fun hr => ?_⟩
  · exact s.log.append_thresholds i _
  · exact ((IncidentLog.count_get _ _ _).trans (if_pos rfl)).trans (by rw [IncidentLog.append_counters])
  · exact ((IncidentLog.count_get _ _ _).trans (if_neg (Ne.symm hk))).trans (by rw [IncidentLog.append_counters])
  · simp only [State.recordIncident, State.setLog_log, IncidentLog.count, s.log.append_of_room i _ hseq]
    exact toNat_succ_of_ne_allOnes hseq
  · simp only [State.recordIncident, State.setLog_log, IncidentLog.count, s.log.append_of_room i _ hseq, ringAppend,
      Config.ringCapacity, List.drop_one]
    split <;> rfl
  · constructor <;> simp only [State.recordIncident, State.setLog_log, IncidentLog.count, s.log.append_saturated i _ hseq]
  · exact if_pos (hreaches.mpr hr)
  · exact if_neg (mt hreaches.mp hr)

end Sys2Proof.Machine
end

section
/-! PROOFS. Chapter 4: the writes of a start, selection, a rejected manifest, and the end of start-up. -/

namespace Sys2Proof.Machine

section
variable {s t u : State}

/-! ## Selection's steps -/

/-- A write in progress takes effect while the part runs (R68). -/
theorem exec_writeTakesEffect {w : Write} (ha : s.alive = true) (hw : s.write = some w) :
    exec .writeTakesEffect s = writeEffect w (s.setWrite none) := by
  change execWriteTakesEffect s = _
  simp only [execWriteTakesEffect, ha, hw, if_true]

theorem whileSelecting_of (h : s.boot.phase = .selecting) (go : Result) : whileSelecting s go = go :=
  if_pos h

theorem State.beginCheck_onlyChanges (s : State) (step : SelectStep) :
    s.onlyChanges (s.beginCheck step) [.port, .job] := by
  simp [State.onlyChanges_iff, State.beginCheck]

theorem State.enterOther_onlyChanges (s : State) : s.onlyChanges s.enterOther [.port, .job] := by
  unfold State.enterOther
  split <;> exact s.beginCheck_onlyChanges _

theorem State.enterCommitted_onlyChanges (s : State) : s.onlyChanges s.enterCommitted [.port, .job] := by
  unfold State.enterCommitted
  split
  · exact s.enterOther_onlyChanges
  · exact s.beginCheck_onlyChanges _

theorem State.enterOther_job (s : State) :
    (s.store.slots.committed.other ∉ s.boot.rejected → s.enterOther.job = .selectCheck .other) ∧
    (s.store.slots.committed.other ∈ s.boot.rejected → s.enterOther.job = .selectCheck .recovery) := by
  unfold State.enterOther
  exact ⟨fun h => by rw [if_neg h]; rfl, fun h => by rw [if_pos h]; rfl⟩

/-- The committed step's own check, or that of the first later step (R78, R79). -/
theorem State.enterCommitted_enters (hw : s.write = none) : s.entersCommitted s.enterCommitted := by
  obtain ⟨hother, hrecovery⟩ := s.enterOther_job
  refine ⟨(s.enterCommitted_onlyChanges .write (by simp)).trans hw, fun h => ?_, fun h h' => ?_, fun h h' => ?_⟩
  all_goals unfold State.enterCommitted
  · rw [if_neg h]
    rfl
  · rw [if_pos h]
    exact hother h'
  · rw [if_pos h]
    exact hrecovery h'

theorem State.beginSelection_onlyChanges (s : State) (asserted : Bool) :
    s.onlyChanges (s.beginSelection asserted) [.port, .job, .write] := by
  have hwrite : ∀ w, s.onlyChanges (s.beginWrite w) [.port, .job, .write] := fun w => by
    simp [State.onlyChanges_iff]
  unfold State.beginSelection
  split
  · exact (s.beginCheck_onlyChanges _).mono (by simp)
  · split
    · split <;> exact hwrite _
    · exact s.enterCommitted_onlyChanges.mono (by simp)

/-- Where selection begins, by the sample and the slot state (R75 to R78). -/
theorem State.beginSelection_begins (hj : s.job = .idle) (hw : s.write = none) (asserted : Bool) :
    s.selectionBegins (s.beginSelection asserted) asserted := by
  refine ⟨?_, ?_⟩
  · rintro rfl
    exact ⟨rfl, hw⟩
  · rintro rfl
    refine ⟨fun slot hp ht => ?_, fun slot hp ht => ?_, fun hp => ?_⟩
    · simp only [State.beginSelection, hp, Nat.ne_of_gt ht, Bool.false_eq_true, if_false]
      exact ⟨rfl, hj⟩
    · simp only [State.beginSelection, hp, ht, Bool.false_eq_true, if_false, if_true]
      exact ⟨rfl, hj⟩
    · simp only [State.beginSelection, hp, Bool.false_eq_true, if_false]
      exact State.enterCommitted_enters hw

theorem State.trySelect_of {asserted : Bool} (hs : s.boot.sample = some asserted)
    (hp : s.boot.phase = .selecting) (hj : s.job = .idle) (hw : s.write = none) :
    s.trySelect = s.beginSelection asserted := by
  simp only [State.trySelect, hs, hp, hj, hw, and_self, if_true]

/-- The part with its sample of L5 taken (R75, R107). -/
def State.sampled (s : State) (asserted : Bool) : State :=
  let t := s.setBoot { s.boot with sample := some asserted }
  if asserted then t.raiseFlag .recoveryRequested else t

theorem State.sampled_eq (s : State) (asserted : Bool) : s.sampled asserted =
    { s with
      boot := { s.boot with sample := some asserted }
      flags := if asserted then s.flags ||| 8 else s.flags } := by
  cases asserted <;> rfl

theorem State.sampleL5_eq (hp : s.boot.phase = .selecting) (hj : s.job = .idle) (hw : s.write = none)
    (asserted : Bool) : s.sampleL5 asserted = (s.sampled asserted).beginSelection asserted := by
  have htry : (s.sampled asserted).trySelect = (s.sampled asserted).beginSelection asserted := by
    rw [s.sampled_eq]
    exact State.trySelect_of rfl hp hj hw
  rw [← htry, State.sampleL5, if_pos hp]
  rfl

/-- Settles O8: the sample is taken and selection begins with it. -/
theorem selectionBeginsWithTheSample : Obligations.SelectionBeginsWithTheSample := by
  intro s ha hp hsettled ht hj hw
  have hexec : exec (.lineSettlingExpiry .l5) s = .next ((s.setL5
      { pinHigh := s.lines.l5.pinHigh, settled := some (!s.lines.l5.pinHigh), timer := false }).sampleL5
        (!s.lines.l5.pinHigh)) := by
    rw [exec_lineSettlingExpiry_l5 ha ht, hsettled]
    rfl
  rw [State.sampleL5_eq (by exact hp) (by exact hj) (by exact hw), State.sampled_eq] at hexec
  have k := State.beginSelection_onlyChanges { (s.setL5
      { pinHigh := s.lines.l5.pinHigh, settled := some (!s.lines.l5.pinHigh), timer := false }) with
    boot := { s.boot with sample := some (!s.lines.l5.pinHigh) }
    flags := if !s.lines.l5.pinHigh then s.flags ||| 8 else s.flags } (!s.lines.l5.pinHigh)
  refine ⟨_, hexec, k .boot (by simp), k .lines (by simp), State.beginSelection_begins (by exact hj) (by exact hw) _,
    fun hlow => (k .flags (by simp)).trans (by simp [hlow]), fun hhigh => (k .flags (by simp)).trans (by simp [hhigh]),
    State.onlyChanges.trans ?_ (k.mono (by simp))⟩
  simp [State.onlyChanges_iff, State.setL5]

/-! ## The writes of a start (R70, R74, R76, R77) -/

/-- The boot-count write's step changes the part as the fuse check and the poll entry decide. -/
theorem bootCountEffect_cases (s : State) :
    let counted := s.setStore { s.store with bootCount := satInc s.store.bootCount }
    (s.fuses.usable = false → bootCountEffect s = counted.halt) ∧
    (s.fuses.usable = true → s.port.readyPoll = none → bootCountEffect s = counted.trySelect) ∧
    (∀ p, s.fuses.usable = true → s.port.readyPoll = some p →
      bootCountEffect s = (counted.setJob .startWait).engineTurn) := by
  refine ⟨fun h => ?_, fun h hp => ?_, fun p h hp => ?_⟩
  · simp only [bootCountEffect, State.setStore_fuses, h, Bool.false_eq_true, if_false]
  · simp only [bootCountEffect, State.setStore_fuses, State.setStore_port, h, hp, Option.isSome_none,
      Bool.false_eq_true, if_true, if_false]
  · simp only [bootCountEffect, State.setStore_fuses, State.setStore_port, h, hp, Option.isSome_some, if_true]

theorem State.trySelect_onlyChanges (s : State) : s.onlyChanges s.trySelect [.port, .job, .write] := by
  unfold State.trySelect
  split
  · split
    · exact s.beginSelection_onlyChanges _
    · exact .refl s _
  · exact .refl s _

theorem State.engineTurn_owner (s : State) : s.engineTurn.port.owner = s.port.owner := by
  rw [(engineTurn_spec s).1]
  rfl

/-- The engine's turn comes at once where nothing of the host's is open or may be (R17, R19). -/
theorem State.engineTurn_startWait (hj : s.job = .startWait) (ho : s.port.openTx = .none)
    (hm : s.host.mayForward = false) :
    s.engineTurn = s.setPort { s.port with openTx := .engineStatus s.port.readyPoll } := by
  simp only [State.engineTurn, hj, ho, hm, Bool.false_eq_true, if_false]

/-- STAGE_UPDATE's wait and a granule's take their turn likewise. -/
theorem State.engineTurn_wait (hj : s.job = .stageWait ∨ s.job = .granuleWait) (ho : s.port.openTx = .none)
    (hm : s.host.mayForward = false) :
    s.engineTurn = s.setPort { s.port with openTx := .engineStatus (pollOf s.classes) } := by
  rcases hj with hj | hj <;> simp only [State.engineTurn, hj, ho, hm, Bool.false_eq_true, if_false]

theorem bootCountEffect_store (s : State) :
    (bootCountEffect s).store = { s.store with bootCount := satInc s.store.bootCount } ∧
      (bootCountEffect s).fuses = s.fuses := by
  obtain ⟨hhalt, htry, hwait⟩ := bootCountEffect_cases s
  cases hu : s.fuses.usable with
  | false =>
    rw [hhalt hu]
    exact ⟨rfl, rfl⟩
  | true =>
    cases hp : s.port.readyPoll with
    | none =>
      rw [htry hu hp]
      exact ⟨State.trySelect_onlyChanges _ .store (by simp), State.trySelect_onlyChanges _ .fuses (by simp)⟩
    | some p =>
      rw [hwait p hu hp]
      exact ⟨by simp, by simp⟩

/-- A raised flag is set (R123). -/
theorem State.flagSet_of_raised {v : BitVec 10} {f : Flag} (h : t.flags = v ||| (1#10 <<< f.bit)) :
    t.flagSet f = true := by
  cases f <;> simp [State.flagSet, h, Flag.bit]

/-- The part once the revert count's write has taken effect and an expiry is logged (R74, R77). -/
def State.afterRevert (s : State) (slot : Slot) (expired : Bool) : State :=
  let t := ((s.setWrite none).setStore { s.store with revertCount := satInc s.store.revertCount }).raiseFlag .reverted
  if expired then
    t.recordIncident (plainIncident .trialExpired noRegion Detail.none (s.fuses.manifestAddress slot))
  else t

theorem State.afterRevert_eq (s : State) (slot : Slot) (expired : Bool) : s.afterRevert slot expired =
    { s with
      store := { s.store with revertCount := satInc s.store.revertCount }
      flags := s.flags ||| (1#10 <<< Flag.reverted.bit)
      log := if expired then (s.log.append (plainIncident .trialExpired noRegion Detail.none
        (s.fuses.manifestAddress slot)) s.store.bootCount).count .trialExpired else s.log
      write := none } := by
  cases expired <;> rfl

/-- Settles O7: the boot-count write, then the three writes of selection. -/
theorem writesOfAStart : Obligations.WritesOfAStart := by
  constructor
  · intro s ha hw hp
    have hexec : exec .writeTakesEffect s = .next (bootCountEffect (s.setWrite none)) := by
      rw [exec_writeTakesEffect ha hw]
      exact whileSelecting_of hp _
    obtain ⟨hstore, hfuses⟩ := bootCountEffect_store (s.setWrite none)
    obtain ⟨hhalt, htry, hwait⟩ := bootCountEffect_cases (s.setWrite none)
    refine ⟨_, hexec, hstore, hfuses, fun hu => ?_, fun p hu hpoll ho hm => ?_, fun hu hpoll hsample => ?_,
      fun asserted hu hpoll hj hsample => ?_⟩
    · rw [hhalt hu]
      exact ⟨rfl, rfl, rfl, by simp [State.onlyChanges_iff, State.halt]⟩
    · rw [hwait p hu hpoll, State.engineTurn_startWait rfl (by exact ho) (by exact hm)]
      exact ⟨rfl, congrArg OpenTransaction.engineStatus hpoll, by simp [State.onlyChanges_iff]⟩
    · rw [htry hu hpoll, State.trySelect]
      simp only [State.setStore_boot, State.setWrite_boot, hsample]
      simp [State.onlyChanges_iff]
    · rw [htry hu hpoll, State.trySelect_of (by exact hsample) (by exact hp) (by exact hj) rfl]
      refine ⟨State.beginSelection_begins (by exact hj) rfl asserted,
        State.onlyChanges.trans ?_ ((State.beginSelection_onlyChanges _ _).mono (by simp))⟩
      simp [State.onlyChanges_iff]
  · intro s ha hp
    refine ⟨fun slot hw => ?_, fun slot expired hw => ?_, fun slot expired hw hq => ?_⟩
    · refine ⟨trialDecrementEffect slot (s.setWrite none), ?_, rfl, rfl, ?_⟩
      · rw [exec_writeTakesEffect ha hw]
        exact whileSelecting_of hp _
      · simp [State.onlyChanges_iff, trialDecrementEffect, State.beginCheck]
    · refine ⟨pendingClearedEffect slot expired (s.setWrite none), ?_, rfl, rfl, ?_⟩
      · rw [exec_writeTakesEffect ha hw]
        exact whileSelecting_of hp _
      · simp [State.onlyChanges_iff, pendingClearedEffect]
    · have hlogged : logExpired slot expired (((s.setWrite none).setStore
          { s.store with revertCount := satInc s.store.revertCount }).raiseFlag .reverted) =
          .on (s.afterRevert slot expired) := by
        cases expired with
        | true => exact logIncident_quiet ((quiet_of_log rfl _).trans hq)
        | false => rfl
      have hexec : exec .writeTakesEffect s = .next (s.afterRevert slot expired).enterCommitted := by
        rw [exec_writeTakesEffect ha hw]
        refine (whileSelecting_of (by exact hp) _).trans ?_
        exact congrArg (fun f : Flow => (f.andThen fun t => .on t.enterCommitted).result) hlogged
      rw [State.afterRevert_eq] at hexec
      have k := State.enterCommitted_onlyChanges { s with
        store := { s.store with revertCount := satInc s.store.revertCount }
        flags := s.flags ||| (1#10 <<< Flag.reverted.bit)
        log := if expired then (s.log.append (plainIncident .trialExpired noRegion Detail.none
          (s.fuses.manifestAddress slot)) s.store.bootCount).count .trialExpired else s.log
        write := none }
      refine ⟨_, hexec, k .store (by simp), State.flagSet_of_raised (k .flags (by simp)),
        State.enterCommitted_enters rfl, ?_, ?_, State.onlyChanges.trans ?_ (k.mono (by simp))⟩
      · rintro rfl
        exact k .log (by simp)
      · rintro rfl
        exact k .log (by simp)
      · simp [State.onlyChanges_iff]

/-! ## A rejected manifest (R76, R78 to R80) -/

/-- The part once a rejection is recorded (R80). -/
def State.rejectionRecorded (s : State) (address : Nat) (reason : VerifyReason) (region : Byte) : State :=
  { s with
    flags := s.flags ||| (1#10 <<< Flag.manifestRejected.bit)
    port := { s.port with openTx := .none }
    log := (s.log.append (plainIncident .manifestRejected region reason.code address) s.store.bootCount).count
      .manifestRejected }

theorem recordRejection_quiet (hq : s.quiet .manifestRejected = true) (address : Nat) (reason : VerifyReason)
    (region : Byte) :
    recordRejection address reason region s = .on (s.rejectionRecorded address reason region) :=
  logIncident_quiet ((quiet_of_log rfl _).trans hq)

theorem exec_manifestCheckComplete_fail {step : SelectStep} {copy content : FlashImage} {reason : VerifyReason}
    {region : Byte} {version : Nat} (ha : s.alive = true) (hp : s.boot.phase = .selecting)
    (hj : s.job = .selectCheck step)
    (h : manifestCheck s.fuses (s.checkInput step) copy content = .fail reason region version)
    (hq : s.quiet .manifestRejected = true) :
    exec (.manifestCheckComplete copy content) s = .next
      ((s.rejectionRecorded (s.checkInput step).address reason region).afterRejection step) := by
  change execManifestCheckComplete copy content s = _
  simp only [execManifestCheckComplete, ha, hp, hj, h, if_true, recordRejection_quiet hq, Flow.on_andThen,
    Flow.result_eq, Flow.on_state]

theorem State.reject_onlyChanges (s : State) (slot : Slot) : s.onlyChanges (s.reject slot) [.boot] := by
  simp [State.onlyChanges_iff, State.reject]

theorem State.afterRejection_onlyChanges (s : State) (step : SelectStep) :
    s.onlyChanges (s.afterRejection step) [.port, .boot, .job, .write, .scratch] := by
  cases step with
  | pending slot => simp [State.onlyChanges_iff, State.afterRejection, State.reject]
  | committed =>
    exact ((s.reject_onlyChanges _).mono (by simp)).trans ((State.enterOther_onlyChanges _).mono (by simp))
  | other => exact ((s.reject_onlyChanges _).mono (by simp)).trans ((State.beginCheck_onlyChanges _ _).mono (by simp))
  | recovery => simp [State.onlyChanges_iff, State.afterRejection, State.halt]

theorem State.reject_mem (s : State) (slot : Slot) : slot ∈ (s.reject slot).boot.rejected :=
  List.mem_insert_self

theorem Slot.other_ne (slot : Slot) : slot.other ≠ slot := by
  cases slot <;> decide

/-- Settles O9: the rejection is recorded, and selection goes on by its step. -/
theorem rejectedManifestIsRecorded : Obligations.RejectedManifestIsRecorded := by
  intro s step copy content reason region version ha hp hj h hq
  have k := (s.rejectionRecorded (s.checkInput step).address reason region).afterRejection_onlyChanges step
  refine ⟨_, exec_manifestCheckComplete_fail ha hp hj h hq, State.flagSet_of_raised (k .flags (by simp)),
    k .log (by simp), k .store (by simp), ?_, ?_, ?_, ?_, State.onlyChanges.trans ?_ (k.mono (by simp))⟩
  · rintro slot rfl
    exact ⟨State.reject_mem _ slot, rfl, rfl⟩
  · rintro rfl
    obtain ⟨hother, hrecovery⟩ := ((s.rejectionRecorded (s.checkInput .committed).address reason region).reject
      s.store.slots.committed).enterOther_job
    have hmem : s.store.slots.committed.other ∈ s.boot.rejected.insert s.store.slots.committed ↔
        s.store.slots.committed.other ∈ s.boot.rejected := by
      simp [List.mem_insert_iff, Slot.other_ne]
    have hboot := State.enterOther_onlyChanges ((s.rejectionRecorded (s.checkInput .committed).address reason
      region).reject s.store.slots.committed) .boot (by simp)
    refine ⟨?_, fun h => hother (by exact mt hmem.1 h), fun h => hrecovery (by exact hmem.2 h)⟩
    exact (congrArg (s.store.slots.committed ∈ ·.rejected) hboot).mpr (State.reject_mem _ _)
  · rintro rfl
    exact ⟨State.reject_mem _ _, rfl⟩
  · rintro rfl
    exact ⟨rfl, rfl, rfl⟩
  · simp [State.onlyChanges_iff, State.rejectionRecorded]

/-! ## The start-up entries and the release (R89, R90) -/

/-- The part with its start-up entries written (R89). -/
theorem State.withEntries_eq (s : State) (b : Booted) : s.withEntries b =
    { s with
      stack := s.startUpStack b
      quote := { s.quote with startEpoch := some s.epoch }
      flags := s.flags ||| (match b.verdict with
        | .normal => 0 | .trial => 1 | .fallback => 2 | .recovery => 4) } := by
  unfold State.withEntries State.raiseVerdictFlag
  cases b.verdict with
  | normal => simp [Verdict.flag, State.setStack, State.setQuote]
  | trial | fallback | recovery => rfl

theorem exec_startUpEntries {b : Booted} (ha : s.alive = true) (hp : s.boot.phase = .completing)
    (hj : s.job = .startUpEntries) (hb : s.boot.outcome = .booted b) :
    exec .startUpEntries s = if (s.withEntries b).wipePending then
      .next ((s.withEntries b).setJob .granuleWait).engineTurn else (finishStart (s.withEntries b)).result := by
  have hbooted : s.booted = some b := by simp only [State.booted, hb]
  change execStartUpEntries s = _
  simp only [execStartUpEntries, ha, hp, hj, hbooted, if_true]

/-- Settles O11: the entries, then the release, VERIFIED's actions, or the marker's erasing. -/
theorem startUpEntriesAndRelease : Obligations.StartUpEntriesAndRelease := by
  intro s b ha hp hj hb
  have hexec := exec_startUpEntries ha hp hj hb
  refine ⟨s.withEntries b, ?_⟩
  rw [State.withEntries_eq] at *
  refine ⟨by simp [State.onlyChanges_iff], rfl, rfl, rfl, rfl, fun i hi => ?_, rfl, rfl, fun hm hw => ?_,
    fun w u hm hw ht => ?_, fun hm => ?_⟩
  · match i, hi with
    | 3, _ | 4, _ | 5, _ | 6, _ | 7, _ => rfl
  · rw [State.wipePending, hm, finishStart_eq, offerSequence_discards (by exact hw)] at hexec
    exact ⟨_, hexec, by simp [State.onlyChanges_iff, State.released], rfl, rfl, rfl, rfl, rfl⟩
  · rw [State.wipePending, hm, finishStart_eq, offerSequence_fires (by exact hw) ht] at hexec
    refine ⟨fun hr => hexec.trans ?_, fun hr => ⟨_, hexec.trans (congrArg (fun f : Flow => ((f.andThen fun t =>
      .on (t.setSchedule { t.schedule with cursor := t.schedule.cursor + 1 })).andThen fun t =>
        .on t.released).result) hr), by simp [State.onlyChanges_iff, State.released], rfl, rfl, rfl, rfl, rfl⟩⟩
    exact congrArg (fun f : Flow => ((f.andThen fun t =>
      .on (t.setSchedule { t.schedule with cursor := t.schedule.cursor + 1 })).andThen fun t =>
        .on t.released).result) hr
  · rw [State.wipePending, if_pos (by exact hm)] at hexec
    refine ⟨_, hexec, by simp [State.onlyChanges_iff], by simp, State.engineTurn_owner _, fun ho hf => ?_⟩
    rw [State.engineTurn_wait (.inr rfl) (by exact ho) (by exact hf)]
    exact congrArg (fun x => { s.port with openTx := x }) rfl

end

end Sys2Proof.Machine
end

section
/-! PROOFS. Chapter 1: a host transaction's edges, its instruction byte, and the decisions at an address. -/

namespace Sys2Proof.Machine

section
variable {s t : State}

/-! ## The edges of HCS_N (R1, R2, R17) -/

theorem exec_hostTransactionBegin_alive (ha : s.alive = true) (hc : s.pins.hcsAsserted = false) :
    exec .hostTransactionBegin s = .next ((s.setPins { s.pins with hcsAsserted := true }).setHost
      { HostRecord.idle with phase := .instruction }) := by
  change execHostTransactionBegin s = _
  simp only [execHostTransactionBegin, hc, ha, Bool.false_eq_true, if_false, if_true]

theorem exec_hostTransactionBegin_held (hs : s.pins.supply = true) (hr : s.pins.resetAsserted = true)
    (hc : s.pins.hcsAsserted = false) :
    exec .hostTransactionBegin s =
      .next ((s.setPins { s.pins with hcsAsserted := true }).setHost .abandoned) := by
  have ha : s.alive = false := by simp only [State.alive, hr, Bool.not_true, Bool.and_false]
  change execHostTransactionBegin s = _
  simp only [execHostTransactionBegin, hc, ha, hs, Bool.false_eq_true, if_false, if_true]

/-- A forwarded transaction closes; nothing else does (R2). -/
theorem FlashPort.closeHost_of_forwarded {p : FlashPort} (h : p.openTx.forwarded = true) :
    p.closeHost = { p with openTx := .none } := by
  unfold FlashPort.closeHost
  split
  · rfl
  · rename_i hopen
    cases ho : p.openTx with
    | host => exact absurd ho (hopen _ _ _ _)
    | none | engineStatus | engineRead | engineErase => rw [ho] at h; cases h

theorem FlashPort.closeHost_of_unforwarded {p : FlashPort} (h : p.openTx.forwarded = false) : p.closeHost = p := by
  unfold FlashPort.closeHost
  split
  · rename_i ho
    rw [ho] at h
    cases h
  · rfl

/-- Only the open transaction changes when the host's closes. -/
theorem FlashPort.closeHost_eq (p : FlashPort) : p.closeHost = { p with openTx := p.closeHost.openTx } := by
  unfold FlashPort.closeHost
  split <;> rfl

/-- The part once HCS_N has been released and a forwarded transaction closed, before the engine's turn (R2). -/
def State.ended (s : State) : State :=
  { s with
    pins := { s.pins with hcsAsserted := false }
    host := { s.host with phase := .idle, stream := none, fillLatched := false, fillLogged := false }
    port := s.port.closeHost }

theorem exec_hostTransactionEnd (hc : s.pins.hcsAsserted = true) :
    exec .hostTransactionEnd s = .next s.ended.engineTurn := by
  change execHostTransactionEnd s = _
  simp only [execHostTransactionEnd, hc, if_true]
  rfl

/-- With nothing open and no operation that waits for the port, the engine's turn changes nothing. -/
theorem State.engineTurn_idle (hj : s.job = .idle) : s.engineTurn = s := by
  unfold State.engineTurn
  split
  · rfl
  · split <;> simp_all

/-- Settles O16: the edges of HCS_N and the judgement at an addressed class's instruction byte. -/
theorem transactionBeginsIsJudgedAndEnds : Obligations.TransactionBeginsIsJudgedAndEnds := by
  refine ⟨fun s ha hc => ?_, fun s hs hr hc => ?_, fun s hc => ?_, fun s b hw hk => ?_⟩
  · exact ⟨_, exec_hostTransactionBegin_alive ha hc, by simp [State.onlyChanges_iff], rfl, rfl⟩
  · exact ⟨_, exec_hostTransactionBegin_held hs hr hc, by simp [State.onlyChanges_iff], rfl, rfl⟩
  · have howner : s.ended.port = { s.port with openTx := s.port.closeHost.openTx } := s.port.closeHost_eq
    have hturn := (engineTurn_spec s.ended).1
    have hport : s.ended.engineTurn.port = { s.port with openTx := s.ended.engineTurn.port.openTx } := by
      rw [hturn, State.setPort_port, howner]
    refine ⟨_, exec_hostTransactionEnd hc, ?_, by simp [State.ended], by simp [State.ended],
      by simp [State.ended], by simp [State.ended], by rw [hport], by rw [hport], ?_, fun hclosed => ?_,
      fun hf hn => ?_⟩
    · simp [State.onlyChanges_iff, State.ended]
    · cases hf : s.ended.engineTurn.port.openTx.forwarded with
      | false => rfl
      | true =>
        rw [(engineTurn_spec s.ended).2 hf] at hf
        exact hf.symm.trans s.port.closeHost_forwarded
    · have hnone : s.ended.port.openTx = .none := by
        rcases hclosed with hf | hn
        · exact congrArg FlashPort.openTx (FlashPort.closeHost_of_forwarded hf)
        · exact (congrArg FlashPort.openTx (FlashPort.closeHost_of_unforwarded (by rw [hn]; rfl))).trans hn
      refine ⟨fun hj => ?_, fun hj => ?_⟩
      · rw [State.engineTurn_wait (by exact hj) hnone rfl]
        rfl
      · rw [State.engineTurn_idle (by exact hj), hnone]
    · have hsame : s.ended.port = s.port := FlashPort.closeHost_of_unforwarded hf
      rw [engineTurn_open (by rw [hsame]; exact hn), hsame]
  · refine ⟨s.takeByte b, onInstruction_awaits hw hk _, by simp [State.onlyChanges_iff, State.takeByte], rfl,
      fun hlen => ?_⟩
    exact if_pos hlen

/-! ## Instruction bytes (R4, R7 to R10, R15, R16) -/

theorem isClass_iff (k c : InstrClass) : isClass k c = true ↔ c = k :=
  decide_eq_true_iff

/-- An incident of a kind that reaches no threshold is recorded on a part whose log is as it was. -/
theorem logIncident_of_log {k : IncidentKind} (hq : s.quiet k = true) {i : Incident} (hk : i.kind = k)
    (hl : t.log = s.log) : logIncident i t = .on (t.recordIncident i) :=
  logIncident_quiet ((quiet_of_log hl _).trans (by rw [hk, hq]))

/-- An unexamined class under HOST_PASS is forwarded with its instruction byte and its entry's lanes (R9, R10). -/
theorem forwardUnexamined_passed (held : Decision) (h : t.host.judgement = some .hostPass) :
    forwardUnexamined held t = .next ((t.setDecision .forward).openForwarded none) := by
  simp [forwardUnexamined, h]

/-- Under ENGINE it takes its other decision and logs PORT_HELD (R15, R16). -/
theorem forwardUnexamined_held (held : Decision) (h : t.host.judgement = some .engine)
    (hq : t.quiet .portHeld = true) : forwardUnexamined held t =
      .next ((t.setDecision held).recordIncident (t.hostIncident .portHeld noRegion t.classCode 0)) := by
  simp only [forwardUnexamined, h, if_true, logPortHeld]
  rw [logIncident_of_log hq] <;> rfl

/-- The four classes that are forwarded without examination run alike (R9, R10). -/
theorem exec_unexamined {command : Byte → Instr} {k : InstrClass} {held : Decision}
    (hmem : (command, k, held) ∈ [(Instr.pass, InstrClass.pass, Decision.absorb),
      (Instr.writeEnable, InstrClass.writeEnable, Decision.absorb),
      (Instr.writeDisable, InstrClass.writeDisable, Decision.absorb),
      (Instr.statusRead, InstrClass.statusRead, Decision.synthStatus)])
    {b : Byte} (hw : s.awaitsInstruction = true) (hk : (s.classify b).cls = k) :
    exec (command b) s = forwardUnexamined held (s.takeByte b) := by
  have hadmitted : isClass k (s.classify b).cls = true := (isClass_iff _ _).mpr hk
  simp only [List.mem_cons, Prod.mk.injEq, List.not_mem_nil, or_false] at hmem
  rcases hmem with ⟨rfl, rfl, rfl⟩ | ⟨rfl, rfl, rfl⟩ | ⟨rfl, rfl, rfl⟩ | ⟨rfl, rfl, rfl⟩
  all_goals exact onInstruction_awaits hw hadmitted _

/-- Settles O17: the classes that no address decides, each by its judgement. -/
theorem instructionBytesByClass : Obligations.InstructionBytesByClass := by
  refine ⟨fun s b hp => if_neg hp, fun s b hw hk hq => ?_, fun s b hw hk hq => ?_,
    fun command k held hmem s b hw hk => ⟨fun ho => ?_, fun ho hq => ?_⟩⟩
  · have hexec : exec (.deny b) s = .next (((s.takeByte b).setDecision .fill).recordIncident
        ((s.takeByte b).hostIncident .instrDenied noRegion Detail.none 0)) := by
      change execDeny b s = _
      rw [execDeny, onInstruction_awaits hw ((isClass_iff _ _).mpr hk), logIncident_of_log hq] <;> rfl
    exact ⟨_, hexec, by simp [State.onlyChanges_iff, State.takeByte, State.recordIncident],
      rfl, rfl, rfl, rfl⟩
  · have hexec : exec (.eraseAll b) s = .next (((s.takeByte b).setDecision .refuse).recordIncident
        ((s.takeByte b).hostIncident .writeRefused noRegion Detail.eraseAll 0)) := by
      change execEraseAll b s = _
      rw [execEraseAll, onInstruction_awaits hw ((isClass_iff _ _).mpr hk), logIncident_of_log hq] <;> rfl
    exact ⟨_, hexec, by simp [State.onlyChanges_iff, State.takeByte, State.recordIncident],
      rfl, rfl, rfl⟩
  · have hexec := (exec_unexamined hmem hw hk).trans
      (forwardUnexamined_passed held (congrArg some ho))
    exact ⟨_, hexec, by simp [State.onlyChanges_iff, State.takeByte, State.setDecision], rfl, ho, rfl, rfl⟩
  · have hexec := (exec_unexamined hmem hw hk).trans
      (forwardUnexamined_held held (congrArg some ho) (by exact hq))
    refine ⟨_, hexec, by simp [State.onlyChanges_iff, State.takeByte, State.recordIncident],
      rfl, ?_⟩
    subst hk
    rfl

/-! ## The decision at an address (R6) -/

/-- A record that differs from the addressed one in other fields has completed its address with its decision. -/
theorem HostRecord.decided_of {e : ClassEntry} {address : Bytes} {d : Decision} {h : HostRecord}
    (hbytes : h.addrBytes = (s.addressed e address).host.addrBytes)
    (haddr : h.addr = (s.addressed e address).host.addr) (hd : h.decision = some d)
    (hphase : h.phase = (s.addressed e address).host.phase)
    (hcls : e.cls.hasData = true ↔ e.cls = .read ∨ e.cls = .program) :
    h.decided e address (ofBe address % s.flashSize) d := by
  refine ⟨hbytes, haddr, hd, hphase.trans ?_⟩
  change e.afterAddress = _
  simp only [ClassEntry.afterAddress, ClassEntry.afterDummy, hcls]

/-- The entry that an awaited address belongs to. -/
theorem State.awaitsAddress_entry {e : ClassEntry} {address : Bytes} (hw : s.awaitsAddress e address = true) :
    s.host.entry = some e := by
  simp only [State.awaitsAddress, Bool.and_eq_true, decide_eq_true_eq] at hw
  exact hw.1.2

theorem exec_read_awaits {e : ClassEntry} {address : Bytes} (hw : s.awaitsAddress e address = true)
    (hk : e.cls = .read) : exec (.read address) s =
      (decideRead e (ofBe address % s.flashSize) (s.addressed e address)).result := by
  change execRead address s = _
  rw [execRead, ← hk, onAddress_awaits hw]
  rfl

theorem ClassEntry.carries_iff (e : ClassEntry) (p : Nat) : e.carries p = true ↔ p < 2 ^ (8 * e.addrLen) :=
  decide_eq_true_iff

/-- The class of the entry that the address belongs to (R15). -/
theorem State.classCode_of {e : ClassEntry} (h : s.host.entry = some e) : s.classCode = e.cls.code := by
  simp [State.classCode, h]

/-- PORT_HELD is logged with its class (R15). -/
theorem logPortHeld_quiet {e : ClassEntry} (hq : s.quiet .portHeld = true) (he : t.host.entry = some e)
    (hl : t.log = s.log) (a : Nat) : logPortHeld a t =
      .on (t.recordIncident (t.hostIncident .portHeld noRegion e.cls.code a)) := by
  rw [logPortHeld, State.classCode_of he, logIncident_of_log hq rfl hl]

/-- A stream's first fill is logged and marked (R11, R36). -/
theorem logFill_quiet {i : Incident} {k : IncidentKind} (hq : s.quiet k = true) (hk : i.kind = k)
    (hf : t.host.fillLogged = false) (hl : t.log = s.log) : logFill i t =
      .on ((t.setHost { t.host with fillLogged := true }).recordIncident i) := by
  rw [logFill, hf, if_neg (by simp), logIncident_of_log hq hk (by exact hl)]

/-- Settles O18: the lines of a READ's decision in order. -/
theorem readDecision : Obligations.ReadDecision := by
  intro s e address hw hk a seg
  have hcls : e.cls.hasData = true ↔ e.cls = .read ∨ e.cls = .program := by simp [hk, InstrClass.hasData]
  have he := State.awaitsAddress_entry hw
  have hcode : e.cls.code = 1 := by rw [hk]; rfl
  let u := s.addressed e address
  have hlookup : u.lookup a = seg := rfl
  have hpass : s.host.judgement = some .hostPass → u.host.judgement = some .hostPass := id
  refine ⟨_, exec_read_awaits hw hk, fun hm => ?_, fun hm hj hq => ?_, fun hm hj hr hl hq => ?_,
    fun hm hj hr hc => ?_, fun hm hj hr hc hl hq => ?_⟩
  · have hdecide : decideRead e a u = .on (u.beginStream seg .window .window
        (decide (s.windowOffset a < 4096))) := if_pos hm
    rw [hdecide]
    exact ⟨by simp [State.onlyChanges_iff, u, State.addressed, State.beginStream],
      HostRecord.decided_of rfl rfl rfl rfl hcls, rfl, decide_eq_true_iff⟩
  · have hdecide : decideRead e a u = .on ((u.beginStream seg .flash .fill true).recordIncident
        (u.hostIncident .portHeld noRegion 1 a)) := by
      rw [decideRead, hlookup, if_neg (by exact ne_true_of_eq_false hm), if_pos (by exact hj),
        logPortHeld_quiet (t := u.beginStream seg .flash .fill true) hq he rfl, hcode]
      rfl
    rw [hdecide]
    exact ⟨by simp [State.onlyChanges_iff, u, State.addressed, State.beginStream, State.recordIncident],
      HostRecord.decided_of rfl rfl rfl rfl hcls, rfl, rfl⟩
  · have hdecide : decideRead e a u = .on (((u.beginStream seg .flash .fill true).setHost
        { (u.beginStream seg .flash .fill true).host with fillLogged := true }).recordIncident
          (u.hostIncident .readFilled seg.region 3 a)) := by
      rw [decideRead, hlookup, if_neg (by exact ne_true_of_eq_false hm), if_neg (by rw [hpass hj]; simp),
        if_pos (by exact hr), logFill_quiet (t := u.beginStream seg .flash .fill true) hq rfl hl rfl]
      rfl
    rw [hdecide]
    exact ⟨by simp [State.onlyChanges_iff, u, State.addressed, State.beginStream, State.recordIncident],
      HostRecord.decided_of rfl rfl rfl rfl hcls, rfl, rfl⟩
  · have hdecide : decideRead e a u =
        .on ((u.beginStream seg .flash .forward false).openForwarded (some (s.translate seg a))) := by
      rw [decideRead, hlookup, if_neg (by exact ne_true_of_eq_false hm), if_neg (by rw [hpass hj]; simp),
        if_neg (by exact hr), if_pos (by exact (e.carries_iff _).mpr hc)]
      rfl
    rw [hdecide]
    refine ⟨by simp [State.onlyChanges_iff, u, State.addressed, State.beginStream],
      HostRecord.decided_of rfl rfl rfl rfl hcls, rfl, rfl, rfl, ?_⟩
    simp [u, State.addressed, State.beginStream, he]
  · have hdecide : decideRead e a u = .on (((u.beginStream seg .flash .fill true).setHost
        { (u.beginStream seg .flash .fill true).host with fillLogged := true }).recordIncident
          (u.hostIncident .boundaryFill seg.region 0x13 a)) := by
      rw [decideRead, hlookup, if_neg (by exact ne_true_of_eq_false hm), if_neg (by rw [hpass hj]; simp),
        if_neg (by exact hr), if_neg (by exact mt (e.carries_iff _).mp (Nat.not_lt.mpr hc)),
        logFill_quiet (t := u.beginStream seg .flash .fill true) hq rfl hl rfl]
      rfl
    rw [hdecide]
    exact ⟨by simp [State.onlyChanges_iff, u, State.addressed, State.beginStream, State.recordIncident],
      HostRecord.decided_of rfl rfl rfl rfl hcls, rfl, rfl⟩

/-- The rest of a program's or erase's bytes is discarded (R12, R15). -/
def State.dropped (s : State) (d : Decision) : State :=
  s.setHost { s.host with decision := some d, discarding := true }

theorem refuseWrite_quiet (hq : s.quiet .writeRefused = true) (hl : t.log = s.log) (seg : Segment) (detail : Byte)
    (a : Nat) : refuseWrite seg detail a t =
      .on ((t.dropped .refuse).recordIncident (t.hostIncident .writeRefused seg.region detail a)) := by
  rw [refuseWrite, logIncident_of_log hq rfl (by exact hl)]
  rfl

theorem absorbWrite_quiet {e : ClassEntry} (hq : s.quiet .portHeld = true) (he : t.host.entry = some e)
    (hl : t.log = s.log) (a : Nat) : absorbWrite a t =
      .on ((t.dropped .absorb).recordIncident (t.hostIncident .portHeld noRegion e.cls.code a)) := by
  rw [absorbWrite, logPortHeld_quiet hq (by exact he) (by exact hl)]
  rfl

theorem forwardWrite_carried {e : ClassEntry} {p : Nat} (hc : p < 2 ^ (8 * e.addrLen)) (seg : Segment) (a : Nat) :
    forwardWrite e seg a p t = .on ((t.setDecision .forward).openForwarded (some p)) :=
  if_pos ((e.carries_iff p).mpr hc)

theorem forwardWrite_uncarried {e : ClassEntry} {p : Nat} (hc : 2 ^ (8 * e.addrLen) ≤ p) (seg : Segment)
    (a : Nat) : forwardWrite e seg a p t = refuseWrite seg Detail.carry a t :=
  if_neg (mt (e.carries_iff p).mp (Nat.not_lt.mpr hc))

/-- The four ends of a decision about a PROGRAM or an erase, as the record and the log show them. -/
theorem addressed_dropped_frame (e : ClassEntry) (address : Bytes) (d : Decision) (i : Incident) :
    s.onlyChanges (((s.addressed e address).dropped d).recordIncident i) [.host, .log] := by
  simp [State.onlyChanges_iff, State.addressed, State.dropped, State.recordIncident]

theorem addressed_forward_frame (e : ClassEntry) (address : Bytes) (p : Option Nat) :
    s.onlyChanges (((s.addressed e address).setDecision .forward).openForwarded p) [.host, .port] := by
  simp [State.onlyChanges_iff, State.addressed]

theorem addressed_forward_openTx {e : ClassEntry} (he : s.host.entry = some e) (address : Bytes) (p : Option Nat) :
    (((s.addressed e address).setDecision .forward).openForwarded p).port.openTx =
      .host (s.host.instr.getD 0) e.lanes p none := by
  simp [State.addressed, he]

/-- Settles O19: the lines of a PROGRAM's decision in order. -/
theorem programDecision : Obligations.ProgramDecision := by
  intro s e address hw hk a seg
  have hcls : e.cls.hasData = true ↔ e.cls = .read ∨ e.cls = .program := by simp [hk, InstrClass.hasData]
  have he := State.awaitsAddress_entry hw
  have hcode : e.cls.code = 2 := by rw [hk]; rfl
  let u := s.addressed e address
  have hlookup : u.lookup a = seg := rfl
  have hpass : s.host.judgement = some .hostPass → u.host.judgement = some .hostPass := id
  have hexec : exec (.program address) s = (decideProgram e a u).result := by
    change execProgram address s = _
    rw [execProgram, ← hk, onAddress_awaits hw]
    rfl
  refine ⟨_, hexec, fun hm hoff => ?_, fun hm hoff hq => ?_, fun hm hj hq => ?_, fun hm hj hr hc => ?_,
    fun hm hj hr hc hq => ?_, fun hm hj hr hq => ?_⟩
  · have hdecide : decideProgram e a u = .on (u.setDecision .window) := by
      rw [decideProgram, hlookup, if_pos (by exact hm)]
      exact if_pos hoff
    rw [hdecide]
    exact ⟨by simp [State.onlyChanges_iff, u, State.addressed], HostRecord.decided_of rfl rfl rfl rfl hcls⟩
  · have hdecide : decideProgram e a u = .on ((u.dropped .window).recordIncident
        (u.hostIncident .writeRefused seg.region 0x12 a)) := by
      rw [decideProgram, hlookup, if_pos (by exact hm)]
      refine (if_neg (Nat.not_lt.mpr hoff)).trans ?_
      rw [logIncident_of_log hq] <;> rfl
    rw [hdecide]
    exact ⟨addressed_dropped_frame _ _ _ _, HostRecord.decided_of rfl rfl rfl rfl hcls, rfl, rfl⟩
  · have hdecide : decideProgram e a u = .on ((u.dropped .absorb).recordIncident
        (u.hostIncident .portHeld noRegion 2 a)) := by
      rw [decideProgram, hlookup, if_neg (by exact ne_true_of_eq_false hm), if_pos (by exact hj),
        absorbWrite_quiet (t := u) hq he rfl, hcode]
    rw [hdecide]
    exact ⟨addressed_dropped_frame _ _ _ _, HostRecord.decided_of rfl rfl rfl rfl hcls, rfl⟩
  · have hdecide : decideProgram e a u =
        .on ((u.setDecision .forward).openForwarded (some (s.translate seg a))) := by
      rw [decideProgram, hlookup, if_neg (by exact ne_true_of_eq_false hm), if_neg (by rw [hpass hj]; simp),
        if_pos (by exact hr)]
      exact forwardWrite_carried hc seg a
    rw [hdecide]
    exact ⟨addressed_forward_frame _ _ _, HostRecord.decided_of rfl rfl rfl rfl hcls,
      addressed_forward_openTx he _ _⟩
  · have hdecide : decideProgram e a u = .on ((u.dropped .refuse).recordIncident
        (u.hostIncident .writeRefused seg.region 0x13 a)) := by
      rw [decideProgram, hlookup, if_neg (by exact ne_true_of_eq_false hm), if_neg (by rw [hpass hj]; simp),
        if_pos (by exact hr)]
      exact (forwardWrite_uncarried hc seg a).trans (refuseWrite_quiet (t := u) hq rfl seg _ a)
    rw [hdecide]
    exact ⟨addressed_dropped_frame _ _ _ _, HostRecord.decided_of rfl rfl rfl rfl hcls, rfl⟩
  · have hdecide : decideProgram e a u = .on ((u.dropped .refuse).recordIncident
        (u.hostIncident .writeRefused seg.region (s.effectiveRule seg).code a)) := by
      rw [decideProgram, hlookup, if_neg (by exact ne_true_of_eq_false hm), if_neg (by rw [hpass hj]; simp),
        if_neg (by exact hr)]
      exact refuseWrite_quiet (t := u) hq rfl seg _ a
    rw [hdecide]
    exact ⟨addressed_dropped_frame _ _ _ _, HostRecord.decided_of rfl rfl rfl rfl hcls, rfl⟩

/-! ## Erases (R41 to R44, R58) -/

/-- The first span check that refuses an erase, with its detail; the last is what the entry carries (R43, R14). -/
def State.eraseRefusedWith (s : State) (e : ClassEntry) (size s0 : Nat) (detail : Byte) : Prop :=
  if s.lookup (s0 + size - 1) ≠ s.lookup s0 then detail = 0x10
  else if s.effectiveRule (s.lookup s0) ≠ .openAll then detail = (s.effectiveRule (s.lookup s0)).code
  else if s.translate (s.lookup s0) s0 % size ≠ 0 then detail = 0x11
  else 2 ^ (8 * e.addrLen) ≤ s.translate (s.lookup s0) s0 ∧ detail = 0x13

theorem decideErase_held {e : ClassEntry} (hj : t.host.judgement = some .engine) (size a : Nat) :
    decideErase size e a t = absorbWrite a t :=
  if_pos hj

theorem decideErase_forwarded {e : ClassEntry} {size a : Nat} (hj : t.host.judgement = some .hostPass)
    (hspan : t.lookup (a - a % size + size - 1) = t.lookup (a - a % size))
    (hrule : t.effectiveRule (t.lookup (a - a % size)) = .openAll)
    (haligned : t.translate (t.lookup (a - a % size)) (a - a % size) % size = 0)
    (hc : t.translate (t.lookup (a - a % size)) (a - a % size) < 2 ^ (8 * e.addrLen)) :
    decideErase size e a t = .on ((t.setDecision .forward).openForwarded
      (some (t.translate (t.lookup (a - a % size)) (a - a % size)))) := by
  have hnone : eraseRefusal size (a - a % size) t = none := by
    simp only [eraseRefusal, hspan, hrule, haligned, ne_eq, not_true_eq_false, if_false]
  simp only [decideErase, hj, hnone, Option.some.injEq, reduceCtorEq, if_false]
  exact forwardWrite_carried hc _ _

theorem decideErase_refused {e : ClassEntry} {size a : Nat} {detail : Byte}
    (hj : t.host.judgement = some .hostPass) (hd : t.eraseRefusedWith e size (a - a % size) detail) :
    decideErase size e a t = refuseWrite (t.lookup a) detail a t := by
  simp only [decideErase, hj, Option.some.injEq, reduceCtorEq, if_false]
  unfold State.eraseRefusedWith at hd
  by_cases hspan : t.lookup (a - a % size + size - 1) = t.lookup (a - a % size)
  · by_cases hrule : t.effectiveRule (t.lookup (a - a % size)) = .openAll
    · by_cases haligned : t.translate (t.lookup (a - a % size)) (a - a % size) % size = 0
      · simp only [hspan, hrule, haligned, ne_eq, not_true_eq_false, if_false] at hd
        obtain ⟨hc, rfl⟩ := hd
        simp only [eraseRefusal, hspan, hrule, haligned, ne_eq, not_true_eq_false, if_false]
        exact forwardWrite_uncarried hc _ _
      · simp only [hspan, hrule, haligned, ne_eq, not_true_eq_false, not_false_eq_true, if_false, if_true] at hd
        simp only [eraseRefusal, hspan, hrule, haligned, ne_eq, not_true_eq_false, not_false_eq_true, if_false,
          if_true, hd]
        rfl
    · simp only [hspan, hrule, ne_eq, not_true_eq_false, not_false_eq_true, if_false, if_true] at hd
      simp only [eraseRefusal, hspan, hrule, ne_eq, not_true_eq_false, not_false_eq_true, if_false, if_true, hd]
  · simp only [hspan, ne_eq, not_false_eq_true, if_true] at hd
    simp only [eraseRefusal, hspan, ne_eq, not_false_eq_true, if_true, hd]
    rfl

/-- Outside the window the three sizes are decided alike; an ERASE_4K of the window acts there (R13, R42). -/
theorem exec_erase {command : Bytes → Instr} {k : InstrClass} {size : Nat}
    (hmem : (command, k, size) ∈ [(Instr.erase4k, InstrClass.erase4k, 4096),
      (Instr.erase32k, InstrClass.erase32k, 32768), (Instr.erase64k, InstrClass.erase64k, 65536)])
    {e : ClassEntry} {address : Bytes} (hw : s.awaitsAddress e address = true) (hk : e.cls = k) :
    e.cls.hasData = false ∧
    exec (command address) s = (if k = .erase4k ∧ s.isMailbox (s.lookup (ofBe address % s.flashSize)) = true then
      eraseWindow (ofBe address % s.flashSize) (s.addressed e address)
      else decideErase size e (ofBe address % s.flashSize) (s.addressed e address)).result := by
  simp only [List.mem_cons, Prod.mk.injEq, List.not_mem_nil, or_false] at hmem
  rcases hmem with ⟨rfl, rfl, rfl⟩ | ⟨rfl, rfl, rfl⟩ | ⟨rfl, rfl, rfl⟩ <;> refine ⟨by rw [hk]; rfl, ?_⟩
  · change execErase4k address s = _
    rw [execErase4k_eq, ← hk, onAddress_awaits hw, hk]
    simp only [true_and]
    rfl
  · change execErase32k address s = _
    rw [execErase32k, ← hk, onAddress_awaits hw, hk]
    rfl
  · change execErase64k address s = _
    rw [execErase64k, ← hk, onAddress_awaits hw, hk]
    rfl

theorem hasData_iff_of_false {k : InstrClass} (h : k.hasData = false) :
    k.hasData = true ↔ k = .read ∨ k = .program := by
  cases k <;> simp_all [InstrClass.hasData]

/-- An overrun is counted and logged with the executing request's code (R58, R62). -/
theorem countOverrun_quiet {a : Nat} {m : Nat × RegionRecord} (hq : s.quiet .requestOverrun = true)
    (hm : t.mailbox = some m) (ha : t.host.addr = some a) (hl : t.log = s.log) : countOverrun t =
      .on ((t.setWindow { t.window with overrun := satInc t.window.overrun }).recordIncident
        { kind := .requestOverrun, instr := t.host.instr.getD 0, region := byteOf m.1
          detail := (t.window.header.map (·.code)).getD 0, addr := a }) := by
  rw [countOverrun, State.windowIncident_eq hm ha, logIncident_of_log hq rfl (by exact hl)]

/-- Outside EXECUTING an ERASE_4K of the request granule changes the window alone (R58). -/
theorem eraseRequestGranule_window (h : t.window.state ≠ .executing) :
    ∃ w, eraseRequestGranule t = .on (t.setWindow w) := by
  cases hs : t.window.state with
  | executing => exact absurd hs h
  | idle => exact ⟨t.window, by simp only [eraseRequestGranule, hs]; rfl⟩
  | assembling | done => exact ⟨_, by simp only [eraseRequestGranule, hs]; rfl⟩

/-- Settles O20: the span's decision for each size, and the window's granules by the mailbox state. -/
theorem eraseDecision : Obligations.EraseDecision := by
  refine ⟨fun command k size hmem s e address hw hk => ?_, fun s e address hw hk => ?_⟩
  · intro a seg s0
    obtain ⟨hdata, hexec⟩ := exec_erase hmem hw hk
    have hcls := hasData_iff_of_false hdata
    have he := State.awaitsAddress_entry hw
    let u := s.addressed e address
    have houtside : k ≠ .erase4k ∨ s.isMailbox seg = false →
        ¬(k = .erase4k ∧ s.isMailbox (s.lookup (ofBe address % s.flashSize)) = true) := by
      rintro (h4 | hm) ⟨h4', hm'⟩
      · exact h4 h4'
      · exact absurd (hm.symm.trans hm') (by simp)
    refine ⟨_, hexec, fun h4 hm hoff => ?_, fun hout hj hq => ?_, fun hout hj hspan hrule haligned hc => ?_,
      fun detail hout hj hd hq => ?_⟩
    · rw [if_pos ⟨h4, hm⟩, eraseWindow, if_neg (by exact Nat.not_lt.mpr hoff)]
      exact ⟨by simp [State.onlyChanges_iff, State.addressed], HostRecord.decided_of rfl rfl rfl rfl hcls⟩
    · rw [if_neg (houtside hout), decideErase_held (t := u) hj, absorbWrite_quiet (t := u) hq he rfl, hk]
      exact ⟨addressed_dropped_frame _ _ _ _, HostRecord.decided_of rfl rfl rfl rfl hcls, rfl⟩
    · rw [if_neg (houtside hout), decideErase_forwarded (t := u) hj hspan hrule haligned hc]
      exact ⟨addressed_forward_frame _ _ _, HostRecord.decided_of rfl rfl rfl rfl hcls,
        addressed_forward_openTx he _ _⟩
    · rw [if_neg (houtside hout), decideErase_refused (t := u) hj hd,
        refuseWrite_quiet (t := u) hq rfl]
      exact ⟨addressed_dropped_frame _ _ _ _, HostRecord.decided_of rfl rfl rfl rfl hcls, rfl⟩
  · intro a hm hoff
    obtain ⟨hdata, hexec⟩ := exec_erase (command := .erase4k) (size := 4096) (by simp) hw hk
    have hcls := hasData_iff_of_false hdata
    let u := (s.addressed e address).setDecision .window
    rw [if_pos ⟨rfl, hm⟩, eraseWindow, if_pos (by exact hoff)] at hexec
    refine ⟨_, hexec, fun hx => ?_, fun hx => ?_, fun hx => ?_, fun hx => ?_, fun m hx hmail hq => ?_⟩
    · obtain ⟨w, hwindow⟩ := eraseRequestGranule_window (t := u) hx
      rw [hwindow]
      exact HostRecord.decided_of rfl rfl rfl rfl hcls
    all_goals rw [eraseRequestGranule, show u.window.state = _ from hx]
    · simp [State.onlyChanges_iff, State.addressed]
    · exact ⟨by simp [State.onlyChanges_iff, State.addressed], rfl⟩
    · exact ⟨by simp [State.onlyChanges_iff, State.addressed], rfl⟩
    · simp only [countOverrun_quiet (t := (s.addressed e address).setDecision .window) hq hmail rfl rfl]
      exact ⟨by simp [State.onlyChanges_iff, State.addressed, State.recordIncident],
        HostRecord.decided_of rfl rfl rfl rfl hcls, rfl, rfl⟩

end

end Sys2Proof.Machine
end

section
/-! PROOFS. Chapters 1 and 2: the bytes of a transaction, driven to the host and sent by it. -/

namespace Sys2Proof.Machine

section
variable {s t : State}

/-! ## A read stream's bytes (R34 to R37) -/

theorem State.streaming_iff (s : State) (e : ClassEntry) (st : ReadStream) (a0 : Nat) :
    s.streaming e st a0 = true ↔
      s.pins.supply = true ∧ s.host.phase = .data ∧ s.host.entry = some e ∧ e.cls = .read ∧
      s.host.decision.isSome = true ∧ s.host.stream = some st ∧ s.host.addr = some a0 ∧
      s.host.fillLatched = false := by
  simp [State.streaming, and_assoc]

/-- A READ's data byte is the stream's. -/
theorem exec_readStreamByte_read {e : ClassEntry} (flash : Byte) (hs : s.pins.supply = true)
    (hp : s.host.phase = .data) (he : s.host.entry = some e) (hk : e.cls = .read)
    (hd : s.host.decision.isSome = true) :
    exec (.readStreamByte flash) s = streamByte flash e s := by
  obtain ⟨d, hd⟩ := Option.isSome_iff_exists.mp hd
  change execReadStreamByte flash s = _
  simp [execReadStreamByte, hs, hp, he, hk, hd]

theorem exec_streaming_flash {e : ClassEntry} {st : ReadStream} {a0 : Nat} (flash : Byte)
    (h : s.streaming e st a0 = true) (hm : st.mode = .flash) : exec (.readStreamByte flash) s =
      (flashByte flash e st ((a0 + st.index) % s.flashSize) s).result := by
  obtain ⟨hs, hp, he, hk, hd, hst, ha, hl⟩ := (s.streaming_iff e st a0).mp h
  rw [exec_readStreamByte_read flash hs hp he hk hd]
  simp only [streamByte, hst, ha, hl, hm, Bool.false_eq_true, if_false]

theorem exec_streaming_window {e : ClassEntry} {st : ReadStream} {a0 : Nat} (flash : Byte)
    (h : s.streaming e st a0 = true) (hm : st.mode = .window) : exec (.readStreamByte flash) s =
      (windowByte st ((a0 + st.index) % s.flashSize) s).result := by
  obtain ⟨hs, hp, he, hk, hd, hst, ha, hl⟩ := (s.streaming_iff e st a0).mp h
  rw [exec_readStreamByte_read flash hs hp he hk hd]
  simp only [streamByte, hst, ha, hl, hm, Bool.false_eq_true, if_false]

/-- The part once a stream's fill has been latched and its one incident marked (R35, R36). -/
def State.filled (s : State) : State :=
  s.latchFill.setHost { s.latchFill.host with fillLogged := true }

theorem logFill_latched {i : Incident} {k : IncidentKind} (hq : s.quiet k = true) (hk : i.kind = k)
    (hl : s.host.fillLogged = false) : logFill i s.latchFill = .on (s.filled.recordIncident i) :=
  logFill_quiet hq hk hl rfl

theorem State.filled_onlyChanges (s : State) (i : Incident) :
    s.onlyChanges (s.filled.recordIncident i) [.host, .port, .log] := by
  simp [State.onlyChanges_iff, State.filled, State.latchFill, State.recordIncident]

/-- FCS_N has been released, with the port's owner as it was. -/
theorem State.filled_port (s : State) (i : Incident) :
    (s.filled.recordIncident i).port.openTx.forwarded = false ∧
      (s.filled.recordIncident i).port.owner = s.port.owner := by
  refine ⟨s.port.closeHost_forwarded, ?_⟩
  change s.port.closeHost.owner = s.port.owner
  rw [FlashPort.closeHost_eq]

/-- The stream goes on with the flash's byte. -/
theorem State.deliver_onlyChanges (s : State) (st : ReadStream) (seg : Segment) (p : Nat) (b : Byte) :
    s.onlyChanges (s.deliver st seg p b) [.host] := by
  simp [State.onlyChanges_iff, State.deliver]

/-- Settles O21: within its segment a stream goes on until the rule or the carry ends it. -/
theorem readStreamWithinASegment : Obligations.ReadStreamWithinASegment := by
  intro s e st a0 flash h hmode a p hstay
  obtain ⟨-, -, -, -, -, -, -, hlatched⟩ := (s.streaming_iff e st a0).mp h
  have hexec : exec (.readStreamByte flash) s = (sameSegmentByte flash e st a s).result := by
    rw [exec_streaming_flash flash h hmode]
    exact congrArg Flow.result (if_neg (ne_true_of_eq_false hstay))
  refine ⟨fun hr hc => ?_, fun k detail hd hl hq => ?_⟩
  · have hbyte : sameSegmentByte flash e st a s = .on (s.deliver st st.segment p flash) :=
      (if_neg hr).trans (if_pos ((e.carries_iff _).mpr hc))
    rw [hbyte] at hexec
    exact ⟨_, hexec, s.deliver_onlyChanges _ _ _ _, rfl, hlatched, rfl⟩
  · have hbyte : sameSegmentByte flash e st a s =
        logFill (s.hostIncident k st.segment.region detail a) s.latchFill := by
      by_cases hr : s.effectiveRule st.segment = .noAccess
      · rw [if_pos hr] at hd
        obtain ⟨rfl, rfl⟩ := hd
        exact if_pos hr
      · rw [if_neg hr] at hd
        obtain ⟨hc, rfl, rfl⟩ := hd
        exact (if_neg hr).trans (if_neg (mt (e.carries_iff _).mp (Nat.not_lt.mpr hc)))
    rw [hbyte, logFill_latched hq rfl hl] at hexec
    obtain ⟨hclosed, howner⟩ := s.filled_port (s.hostIncident k st.segment.region detail a)
    exact ⟨_, hexec, s.filled_onlyChanges _, rfl, rfl, rfl, hclosed, howner, rfl⟩

/-- Settles O22: the conditions at a segment's edge, in order. -/
theorem readStreamEntersASegment : Obligations.ReadStreamEntersASegment := by
  intro s e st a0 flash h hmode a seg hleave
  have hexec : exec (.readStreamByte flash) s = (newSegmentByte flash e st a s).result := by
    rw [exec_streaming_flash flash h hmode]
    exact congrArg Flow.result (if_pos hleave)
  refine ⟨_, hexec, fun hm hr hp hc => ?_, fun k detail hd hl hq => ?_⟩
  · have hbyte : newSegmentByte flash e st a s = .on (s.deliver st seg (s.translate seg a) flash) :=
      (if_neg (ne_true_of_eq_false hm)).trans ((if_neg hr).trans ((if_neg (not_not.mpr hp)).trans
        (if_pos ((e.carries_iff _).mpr hc))))
    rw [hbyte]
    refine ⟨s.deliver_onlyChanges _ _ _ _, rfl, ?_⟩
    simp [State.deliver, hmode]
  · have hbyte : newSegmentByte flash e st a s =
        logFill (s.hostIncident k seg.region detail a) s.latchFill := by
      unfold newSegmentByte
      by_cases hm : s.isMailbox seg = true
      · rw [if_pos hm] at hd
        obtain ⟨rfl, rfl⟩ := hd
        exact if_pos hm
      rw [if_neg hm] at hd
      refine (if_neg hm).trans ?_
      by_cases hr : s.effectiveRule seg = .noAccess
      · rw [if_pos hr] at hd
        obtain ⟨rfl, rfl⟩ := hd
        exact if_pos hr
      rw [if_neg hr] at hd
      refine (if_neg hr).trans ?_
      by_cases hp : (st.previous.map fun q => (q + 1) % s.flashSize) ≠ some (s.translate seg a)
      · rw [if_pos hp] at hd
        obtain ⟨rfl, rfl⟩ := hd
        exact if_pos hp
      rw [if_neg hp] at hd
      obtain ⟨hc, rfl, rfl⟩ := hd
      exact (if_neg hp).trans (if_neg (mt (e.carries_iff _).mp (Nat.not_lt.mpr hc)))
    rw [hbyte, logFill_latched hq rfl hl]
    exact ⟨s.filled_onlyChanges _, rfl, rfl, (s.filled_port _).1, rfl⟩

/-! ## The other bytes the host reads (R1, R7, R9, R10, R15, R16, R21) -/

/-- A transaction stands in a phase of its own, past the instruction byte and not abandoned (R1). -/
theorem not_edge_of_phase {p : Phase} (h : p = .address ∨ p = .dummy ∨ p = .data ∨ p = .trail) :
    p ≠ .abandoned ∧ p ≠ .idle := by
  rcases h with rfl | rfl | rfl | rfl <;> exact ⟨nofun, nofun⟩

theorem exec_readStreamByte_abandoned (flash : Byte) (hs : s.pins.supply = true)
    (hp : s.host.phase = .abandoned) : exec (.readStreamByte flash) s = .next (s.drive Config.fill) := by
  change execReadStreamByte flash s = _
  simp [execReadStreamByte, hs, hp]

theorem State.read_dummy (e : ClassEntry) (hp : s.host.phase = .dummy) :
    s.read e = s.setHost (s.host.dummyByte e) := by
  simp only [State.read, hp]

/-- A class with a data phase has it after its dummy bytes (R1). -/
theorem ClassEntry.afterDummy_data {e : ClassEntry} (h : e.cls.hasData = true) : e.afterDummy = .data :=
  if_pos h

/-- What a byte that is read and driven leaves of the record, by the phase (R1). -/
theorem State.read_drive_spec {e : ClassEntry} (hdata : e.cls.hasData = true) (b : Byte) :
    s.onlyChanges ((s.read e).drive b) [.host] ∧ ((s.read e).drive b).host.driven = some b ∧
    (s.host.phase ≠ .dummy → ((s.read e).drive b).host = { s.host with driven := some b }) ∧
    (s.host.phase = .dummy → ((s.read e).drive b).host = { s.host with
      driven := some b, dummyCount := s.host.dummyCount + 1
      phase := if s.host.dummyCount + 1 < e.dummy then .dummy else .data }) := by
  refine ⟨?_, rfl, fun hp => ?_, fun hp => ?_⟩
  · rw [read_spec]
    simp [State.onlyChanges_iff, State.drive]
  · rw [read_phase s e hp]
    rfl
  · rw [State.read_dummy e hp, ← ClassEntry.afterDummy_data hdata]
    rfl

/-- The byte each class without a stream drives, by its decision (R7, R9, R10, R15, R16). -/
theorem exec_readStreamByte_driven {e : ClassEntry} {d : Decision} {flash b : Byte} (hs : s.pins.supply = true)
    (hp : s.host.phase = .address ∨ s.host.phase = .dummy ∨ s.host.phase = .data ∨ s.host.phase = .trail)
    (he : s.host.entry = some e) (hd : s.host.decision = some d)
    (hb : (e.cls = .deny ∧ d = .fill ∧ b = 0xFF) ∨ (e.cls = .pass ∧ d = .absorb ∧ b = 0xFF) ∨
        (e.cls = .pass ∧ d = .forward ∧ b = flash) ∨ (e.cls = .statusRead ∧ d = .forward ∧ b = flash) ∨
        (e.cls = .statusRead ∧ d = .synthStatus ∧ b = 1#8 <<< s.fuses.busyBit)) :
    e.cls.hasData = true ∧ exec (.readStreamByte flash) s = .next ((s.read e).drive b) := by
  obtain ⟨hnot, hidle⟩ := not_edge_of_phase hp
  change _ ∧ execReadStreamByte flash s = _
  unfold execReadStreamByte
  rw [if_pos hs]
  rcases hb with ⟨hk, rfl, rfl⟩ | ⟨hk, rfl, rfl⟩ | ⟨hk, rfl, rfl⟩ | ⟨hk, rfl, rfl⟩ | ⟨hk, rfl, rfl⟩
  all_goals
    refine ⟨by rw [hk]; rfl, ?_⟩
    simp only [he, hd, hk, Config.fill, Fuses.busyStatus]

/-- Settles O23: latched and window streams, the classes without a stream, dummy bytes, TRAIL and ABANDONED. -/
theorem bytesDrivenToTheHost : Obligations.BytesDrivenToTheHost := by
  refine ⟨fun s e st flash hs hp he hk hd hst ha hl => ?_, fun s e st a0 flash h hm => ?_,
    fun s e d flash hs hp he hd => ⟨fun b hb => ?_, fun hk hdummy => ?_, fun hk htrail => ?_⟩, fun s flash hs hp => ?_⟩
  · have hexec : exec (.readStreamByte flash) s = .next (s.drive Config.fill) := by
      obtain ⟨a0, ha⟩ := Option.isSome_iff_exists.mp ha
      rw [exec_readStreamByte_read flash hs hp he hk hd]
      simp only [streamByte, hst, ha, hl, if_true]
    exact ⟨_, hexec, by simp [State.onlyChanges_iff, State.drive], rfl, hst⟩
  · intro a
    refine ⟨fun hstay => ?_, fun hleave hl hq => ?_⟩
    all_goals have hexec := exec_streaming_window flash h hm
    · refine ⟨_, hexec.trans (congrArg Flow.result (if_neg (ne_true_of_eq_false hstay))), ?_, rfl, rfl⟩
      simp [State.onlyChanges_iff]
    · have hbyte : windowByte st a s =
          .on (s.filled.recordIncident (s.hostIncident .boundaryFill st.segment.region 0x22 a)) :=
        (if_pos hleave).trans (logFill_latched hq rfl hl)
      exact ⟨_, hexec.trans (congrArg Flow.result hbyte), s.filled_onlyChanges _, rfl, rfl, rfl,
        (s.filled_port _).1, rfl⟩
  · obtain ⟨hdata, hexec⟩ := exec_readStreamByte_driven hs hp he hd hb
    exact ⟨_, hexec, State.read_drive_spec hdata b⟩
  · have hexec : exec (.readStreamByte flash) s = .next (s.read e) := by
      change execReadStreamByte flash s = _
      simp [execReadStreamByte, hs, hdummy, he, hd, hk]
    have hdata : e.cls.hasData = true := by rw [hk]; rfl
    rw [State.read_dummy e hdummy] at hexec
    refine ⟨_, hexec, by simp [State.onlyChanges_iff], ?_⟩
    rw [← ClassEntry.afterDummy_data hdata]
    rfl
  · have hexec : exec (.readStreamByte flash) s = .next ((s.read e).drive Config.fill) := by
      change execReadStreamByte flash s = _
      cases hcls : e.cls <;> simp [hcls, InstrClass.hasData] at hk <;>
        simp [execReadStreamByte, hs, htrail, he, hd, hcls]
    rw [read_phase s e (by simp [htrail])] at hexec
    exact ⟨_, hexec, by simp [State.onlyChanges_iff, State.drive], rfl⟩
  · exact ⟨_, exec_readStreamByte_abandoned flash hs hp, by simp [State.onlyChanges_iff, State.drive], rfl⟩

/-! ## The bytes the host sends (R12, R39, R9, R10, R21) -/

theorem State.sendOn_open {byte : Byte} {lanes : Nat} {physical : Option Nat} {last : Option Byte}
    (h : s.port.openTx = .host byte lanes physical last) (b : Byte) :
    s.sendOn b = s.setPort { s.port with openTx := .host byte lanes physical (some b) } := by
  simp only [State.sendOn, h]

theorem State.sendOn_onlyChanges (s : State) (b : Byte) : s.onlyChanges (s.sendOn b) [.port] := by
  unfold State.sendOn
  split
  · simp [State.onlyChanges_iff]
  · exact .refl s _

/-- A PROGRAM's data byte goes by its decision. -/
theorem exec_programDataByte_program {e : ClassEntry} {d : Decision} (b : Byte) (hs : s.pins.supply = true)
    (hp : s.host.phase = .data) (he : s.host.entry = some e) (hk : e.cls = .program)
    (hd : s.host.decision = some d) : exec (.programDataByte b) s = programByte b d s := by
  change execProgramDataByte b s = _
  simp [execProgramDataByte, hs, hp, he, hk, hd]

theorem programByte_forward {a : Nat} (b : Byte) (ha : s.host.addr = some a) :
    programByte b .forward s = (forwardedByte b a s).result := by
  simp only [programByte, ha]

/-- The other classes' bytes are sent on where a PASS or STATUS_READ is forwarded, and discarded elsewhere. -/
theorem exec_programDataByte_other {e : ClassEntry} {d : Decision} (b : Byte) (hs : s.pins.supply = true)
    (hp : s.host.phase = .address ∨ s.host.phase = .dummy ∨ s.host.phase = .data ∨ s.host.phase = .trail)
    (he : s.host.entry = some e) (hd : s.host.decision = some d)
    (hk : e.cls ≠ .program) (hread : e.cls = .read → s.host.phase = .dummy) :
    (d ≠ .forward ∨ (e.cls ≠ .pass ∧ e.cls ≠ .statusRead) →
      exec (.programDataByte b) s = .next (s.sent e b)) ∧
    (d = .forward → e.cls = .pass ∨ e.cls = .statusRead →
      exec (.programDataByte b) s = .next ((s.sent e b).sendOn b)) := by
  obtain ⟨hnot, hidle⟩ := not_edge_of_phase hp
  have hexec : exec (.programDataByte b) s = execProgramDataByte b s := rfl
  rw [hexec, execProgramDataByte, if_pos hs]
  refine ⟨fun hother => ?_, fun hf hsent => ?_⟩
  · cases hc : e.cls with
    | program => exact absurd hc hk
    | read => simp only [he, hd, hc, hread hc, if_true]
    | pass | statusRead =>
      have hheld : d ≠ .forward := hother.resolve_right (by simp [hc])
      cases d with
      | forward => exact absurd rfl hheld
      | _ => simp only [he, hd, hc]
    | _ => simp only [he, hd, hc]
  · subst hf
    rcases hsent with hc | hc <;> simp only [he, hd, hc]

/-- What a byte the host sends leaves of the record, by the phase (R1). -/
theorem State.sent_host (s : State) (e : ClassEntry) (b : Byte) :
    (s.host.phase = .data ∨ s.host.phase = .trail → (s.sent e b).host = s.host) ∧
    (s.host.phase = .address → (s.sent e b).host = s.host.addressByte e b) ∧
    (s.host.phase = .dummy → (s.sent e b).host = s.host.dummyByte e) := by
  refine ⟨fun hp => ?_, fun hp => ?_, fun hp => ?_⟩
  · rcases hp with hp | hp <;> rw [sent_phase s e b (by simp [hp]) (by simp [hp])]
  all_goals
    simp only [State.sent, hp]
    rfl

theorem State.sent_onlyChanges (s : State) (e : ClassEntry) (b : Byte) : s.onlyChanges (s.sent e b) [.host] := by
  rw [sent_spec]
  simp [State.onlyChanges_iff]

theorem onInstruction_abandoned (admitted : InstrClass → Bool) (b : Byte) (hs : s.pins.supply = true)
    (hp : s.host.phase = .abandoned) (go : State → Result) : onInstruction admitted b s go = .next s := by
  simp [onInstruction, hs, hp]

theorem onAddress_abandoned (k : InstrClass) (address : Bytes) (hs : s.pins.supply = true)
    (hp : s.host.phase = .abandoned) (go : ClassEntry → Nat → State → Result) :
    onAddress k address s go = .next s := by
  simp [onAddress, hs, hp]

/-- Settles O24: forwarded and other programs, the classes without a program, and ABANDONED. -/
theorem bytesTheHostSends : Obligations.BytesTheHostSends := by
  refine ⟨fun s a b h => ?_,
    fun s e d a b hs hp he hk hd ha => ⟨fun hdrop => ?_, fun m hwin hdisc hm => ?_⟩,
    fun s e d b hs hp he hd hk => ?_, fun c s hc hread hs hp => ?_⟩
  · obtain ⟨hs, hp, ⟨e, he, hk⟩, hd, ha, hdisc⟩ := (s.programming_iff _ a).mp h
    have hexec : exec (.programDataByte b) s = (forwardedByte b a s).result :=
      (exec_programDataByte_program b hs hp he hk hd).trans (programByte_forward b ha)
    refine ⟨fun hr byte lanes physical last ho => ?_, fun hr hq => ?_⟩
    · have hbyte : forwardedByte b a s = .on (s.sendOn b) :=
        (if_neg (ne_true_of_eq_false hdisc)).trans (if_pos hr)
      rw [hbyte, State.sendOn_open ho] at hexec
      exact ⟨_, hexec, by simp [State.onlyChanges_iff], rfl⟩
    · have hbyte : forwardedByte b a s = .on ((s.setPort s.port.closeHost).discardRest.recordIncident
          (s.hostIncident .writeRefused (s.lookup a).region (s.effectiveRule (s.lookup a)).code a)) :=
        (if_neg (ne_true_of_eq_false hdisc)).trans ((if_neg hr).trans (logIncident_of_log hq rfl rfl))
      rw [hbyte] at hexec
      refine ⟨_, hexec, ?_, rfl, s.port.closeHost_forwarded, rfl⟩
      simp [State.onlyChanges_iff, State.discardRest, State.recordIncident]
  · rw [exec_programDataByte_program b hs hp he hk hd]
    rcases hdrop with rfl | rfl | ⟨rfl, hdisc⟩
    · rfl
    · rfl
    · rw [programByte_forward b ha, forwardedByte, if_pos hdisc]
      rfl
  · have hbyte : assembleByte b (s.windowOffset a) s = .on s.countByte := if_pos hdisc
    refine ⟨s.countByte, ?_, by simp [State.onlyChanges_iff, State.countByte], rfl⟩
    rw [exec_programDataByte_program b hs hp he hk hd, hwin]
    simp only [programByte, ha, hm, hbyte]
    rfl
  · have hprogram : e.cls ≠ .program := by
      rintro hx
      simp [hx] at hk
    have hreadDummy : e.cls = .read → s.host.phase = .dummy := by
      intro hx
      simpa [hx] using hk
    obtain ⟨hkept, hforwarded⟩ := exec_programDataByte_other b hs hp he hd hprogram hreadDummy
    obtain ⟨hstand, haddress, hdummy⟩ := s.sent_host e b
    by_cases hf : d = .forward ∧ (e.cls = .pass ∨ e.cls = .statusRead)
    · obtain ⟨hfwd, hsent⟩ := hf
      have ksent := s.sent_onlyChanges e b
      have ksend := (s.sent e b).sendOn_onlyChanges b
      have hhost : ((s.sent e b).sendOn b).host = (s.sent e b).host := ksend .host (by simp)
      refine ⟨_, hforwarded hfwd hsent, (ksent.mono (by simp)).trans (ksend.mono (by simp)),
        fun hx => hhost.trans (hstand hx), fun hx => hhost.trans (haddress hx), fun hx => hhost.trans (hdummy hx),
        fun hx => ?_, fun byte lanes physical last _ _ ho => ?_⟩
      · rcases hx with hx | ⟨h1, h2⟩
        · exact absurd hfwd hx
        · exact absurd hsent (by simp [h1, h2])
      · have hport : (s.sent e b).port = s.port := ksent .port (by simp)
        rw [State.sendOn_open (by rw [hport]; exact ho), State.setPort_port, hport]
    · have hother : d ≠ .forward ∨ (e.cls ≠ .pass ∧ e.cls ≠ .statusRead) := by
        rw [not_and_or, not_or] at hf
        exact hf
      have ksent := s.sent_onlyChanges e b
      exact ⟨_, hkept hother, ksent.mono (by simp), hstand, haddress, hdummy, fun _ => ksent .port (by simp),
        fun byte lanes physical last hfwd hsent _ => absurd ⟨hfwd, hsent⟩ hf⟩
  · cases c with
    | readStreamByte flash => exact absurd rfl (hread flash)
    | programDataByte b =>
      change execProgramDataByte b s = _
      simp [execProgramDataByte, hs, hp]
    | read address => exact (onAddress_abandoned _ _ hs hp _ : execRead address s = _)
    | program address => exact (onAddress_abandoned _ _ hs hp _ : execProgram address s = _)
    | erase4k address => exact (onAddress_abandoned _ _ hs hp _ : execErase4k address s = _)
    | erase32k address => exact (onAddress_abandoned _ _ hs hp _ : execErase32k address s = _)
    | erase64k address => exact (onAddress_abandoned _ _ hs hp _ : execErase64k address s = _)
    | deny b => exact (onInstruction_abandoned _ _ hs hp _ : execDeny b s = _)
    | eraseAll b => exact (onInstruction_abandoned _ _ hs hp _ : execEraseAll b s = _)
    | instructionByte | pass | writeEnable | writeDisable | statusRead =>
      exact onInstruction_abandoned _ _ hs hp _
    | _ => cases hc

end

end Sys2Proof.Machine
end
section
/-! PROOFS. Chapter 3: the bytes of a request, the frame they complete, the frame a response is, and GET_STATUS. -/

namespace Sys2Proof.Machine

section
variable {s t : State}

/-! ## Request-area bytes (R52 to R57, R62) -/

/-- A byte that completes neither the header nor the frame only joins the buffer (R53). -/
theorem appendByte_partial (b : Byte) (h8 : t.window.buffer.length + 1 ≠ 8)
    (hframe : t.window.frameLength ≠ some (t.window.buffer.length + 1)) :
    appendByte b t = .on (t.setWindow { t.window with state := .assembling, buffer := t.window.buffer ++ [b] }) := by
  have hlength : (t.window.buffer ++ [b]).length = t.window.buffer.length + 1 := List.length_append
  simp only [appendByte, State.setWindow_window, hlength, h8, hframe, if_false]

/-- A byte at the received count is appended, in IDLE and DONE where it is its program's first (R53, R54). -/
theorem assembleByte_appends {w : Nat} (b : Byte) (hd : s.host.discarding = false)
    (hx : s.window.state ≠ .executing) (hj : s.host.dataCount = 0 ∨ s.window.state = .assembling)
    (hl : landing w s.host.dataCount = s.window.buffer.length) :
    assembleByte b w s = appendByte b s.countByte := by
  by_cases hs : s.window.state = .assembling
  · exact assembleByte_at_count b hd hs hl
  · have hfirst : s.host.dataCount = 0 := hj.resolve_right hs
    obtain rfl : w = s.window.buffer.length := by simpa [hfirst] using hl
    cases hstate : s.window.state with
    | executing => exact absurd hstate hx
    | assembling => exact absurd hstate hs
    | idle | done => simp [assembleByte, firstByte, State.countByte, hd, hfirst, hstate]

theorem assembleByte_first {w : Nat} (b : Byte) (hd : s.host.discarding = false) (hj : s.host.dataCount = 0) :
    assembleByte b w s = firstByte b w s.countByte := by
  simp [assembleByte, State.countByte, hd, hj]

theorem assembleByte_later {w : Nat} (b : Byte) (hd : s.host.discarding = false) (hj : 0 < s.host.dataCount) :
    assembleByte b w s = laterByte b w s.host.dataCount s.countByte := by
  simp [assembleByte, State.countByte, hd, Nat.ne_of_gt hj]

/-- A later byte that does not land at the received count breaks the frame (R54). -/
theorem laterByte_breaks {b : Byte} {w : Nat} (hs : s.window.state = .assembling)
    (hl : landing w s.host.dataCount ≠ s.window.buffer.length) :
    laterByte b w s.host.dataCount s.countByte = logBreak Detail.pageWrap
      (s.countByte.setWindow { s.window.discard with state := .idle }).discardRest := by
  rw [laterByte, show s.countByte.window.state = _ from hs]
  exact if_neg hl

/-- A program's first break, with its incident's fields (R54). -/
theorem logBreak_first {a : Nat} {m : Nat × RegionRecord} (hl : t.log = s.log) (hm : t.mailbox = some m)
    (ha : t.host.addr = some a) (hfirst : t.host.breakLogged = false) (hq : s.quiet .frameBad = true)
    (detail : Byte) : logBreak detail t =
      .on ((t.setHost { t.host with breakLogged := true }).recordIncident
        { kind := .frameBad, instr := t.host.instr.getD 0, region := byteOf m.1, detail := detail, addr := a }) := by
  rw [logBreak_quiet hfirst ((quiet_of_log hl _).trans hq), State.windowIncident_eq hm ha]

/-- Settles O25: where a byte lands, and what it does there in each mailbox state. -/
theorem requestAreaBytes : Obligations.RequestAreaBytes := by
  refine ⟨fun w j => by unfold landing; omega, fun s a b m h hm => ?_⟩
  intro w n broken break_
  obtain ⟨-, -, -, -, ha, hd⟩ := (s.programming_iff _ a).mp h
  let u := s.countByte
  refine ⟨_, exec_programDataByte_window b h hm, fun hx hj hl h8 hframe => ?_, fun hj hs hw hb hq => ?_,
    fun hj hs hw h0 hb hq => ?_, fun hj hs hw h0 hb hq => ?_, fun hj hs hl => ⟨fun hb hq => ?_, fun hb => ?_⟩,
    fun hj hs => ?_, fun hj hs hq => ?_⟩
  · rw [assembleByte_appends b hd hx hj hl, appendByte_partial (t := u) b h8 hframe]
    exact ⟨by simp [State.onlyChanges_iff, u, State.countByte], rfl, rfl⟩
  · have hbyte : firstByte b w u = logBreak Detail.sequenceBreak u.discardRest := by
      rcases hs with hs | hs <;> rw [firstByte, show u.window.state = _ from hs] <;> exact if_neg hw
    rw [assembleByte_first b hd hj, hbyte, logBreak_first (s := s) (t := u.discardRest) rfl hm ha hb hq]
    exact ⟨by simp [State.onlyChanges_iff, u, State.countByte, State.discardRest, State.recordIncident],
      rfl, rfl, rfl⟩
  · have hbyte : firstByte b w u = logBreak Detail.sequenceBreak (u.setWindow broken).discardRest := by
      rw [firstByte, show u.window.state = _ from hs]
      exact (if_neg hw).trans (if_neg h0)
    rw [assembleByte_first b hd hj, hbyte,
      logBreak_first (s := s) (t := (u.setWindow broken).discardRest) rfl hm ha hb hq]
    exact ⟨by simp [State.onlyChanges_iff, u, State.countByte, State.discardRest, State.recordIncident],
      rfl, rfl, rfl, rfl⟩
  · have hbyte : firstByte b w u =
        (logBreak Detail.sequenceBreak (u.setWindow u.window.discard)).andThen (appendByte b) := by
      rw [firstByte, show u.window.state = _ from hs]
      exact (if_neg hw).trans (if_pos h0)
    rw [assembleByte_first b hd hj, hbyte,
      logBreak_first (s := s) (t := u.setWindow u.window.discard) rfl hm ha hb hq, Flow.on_andThen,
      appendByte_partial b (by simp [Window.discard, State.recordIncident])
        (by simp [Window.discard, State.recordIncident])]
    exact ⟨by simp [State.onlyChanges_iff, u, State.countByte, State.recordIncident],
      rfl, hd, rfl, rfl⟩
  · have hbyte : laterByte b w s.host.dataCount u = logBreak Detail.pageWrap (u.setWindow broken).discardRest :=
      laterByte_breaks hs hl
    rw [assembleByte_later b hd hj, hbyte,
      logBreak_first (s := s) (t := (u.setWindow broken).discardRest) rfl hm ha hb hq]
    exact ⟨by simp [State.onlyChanges_iff, u, State.countByte, State.discardRest, State.recordIncident],
      rfl, rfl, rfl, rfl⟩
  · rw [assembleByte_later b hd hj, laterByte_breaks hs hl, logBreak_again (by exact hb)]
    exact ⟨by simp [State.onlyChanges_iff, State.countByte, State.discardRest], rfl, rfl⟩
  · have hbyte : laterByte b w s.host.dataCount u = .on u.discardRest := by
      unfold laterByte
      split
      · exact absurd ‹_› hs
      · rfl
      · rfl
      · rfl
    rw [assembleByte_later b hd hj, hbyte]
    exact ⟨by simp [State.onlyChanges_iff, u, State.countByte, State.discardRest], rfl⟩
  · have hbyte : firstByte b w u = countOverrun u.discardRest := by
      rw [firstByte, show u.window.state = _ from hs]
    rw [assembleByte_first b hd hj, hbyte, countOverrun_quiet (s := s) (t := u.discardRest) hq hm ha rfl]
    exact ⟨by simp [State.onlyChanges_iff, u, State.countByte, State.discardRest, State.recordIncident],
      rfl, rfl, rfl⟩

/-! ## The byte that completes a frame (R56, R59, R65) -/

/-- The part with the frame's last byte in the buffer. -/
def State.withLast (s : State) (b : Byte) : State :=
  s.countByte.setWindow { s.window with state := .assembling, buffer := s.window.buffer ++ [b] }

theorem appendByte_complete (b : Byte) (h8 : t.window.buffer.length + 1 ≠ 8)
    (hframe : t.window.frameLength = some (t.window.buffer.length + 1)) :
    appendByte b t = frameComplete
      (t.setWindow { t.window with state := .assembling, buffer := t.window.buffer ++ [b] }) := by
  have hlength : (t.window.buffer ++ [b]).length = t.window.buffer.length + 1 := List.length_append
  simp only [appendByte, State.setWindow_window, hlength, h8, hframe, if_false, if_true]

theorem exec_programDataByte_last {a : Nat} {m : Nat × RegionRecord} (b : Byte)
    (hp : s.programming .window a = true) (hm : s.mailbox = some m) (hs : s.window.state = .assembling)
    (hl : landing (s.windowOffset a) s.host.dataCount = s.window.buffer.length)
    (h8 : s.window.buffer.length + 1 ≠ 8) (hframe : s.window.frameLength = some (s.window.buffer.length + 1)) :
    exec (.programDataByte b) s = .next (frameComplete (s.withLast b)).state := by
  obtain ⟨-, -, -, -, -, hd⟩ := (s.programming_iff _ a).mp hp
  rw [exec_programDataByte_window b hp hm, assembleByte_at_count b hd hs hl,
    appendByte_complete (t := s.countByte) b h8 hframe]
  rfl

/-- The part once a frame's execution has started (R59). -/
def State.started (s : State) (h : FrameHeader) : State :=
  (s.setWindow (s.window.executing h)).discardRest

theorem frameComplete_matches {h : FrameHeader} (hh : t.window.header = some h)
    (hc : frameCheckMatches t.window.buffer = true) : frameComplete t = .on ((t.started h).dispatch h) := by
  simp only [frameComplete, hh, Option.getD_some, hc, if_true]
  rfl

theorem frameComplete_fails {a : Nat} {m : Nat × RegionRecord} {h : FrameHeader} (hl : t.log = s.log)
    (hh : t.window.header = some h) (hc : frameCheckMatches t.window.buffer = false) (hm : t.mailbox = some m)
    (ha : t.host.addr = some a) (hq : s.quiet .frameBad = true) : frameComplete t =
      .on ((t.setWindow (t.window.reject .badCheck h)).discardRest.recordIncident
        { kind := .frameBad, instr := t.host.instr.getD 0, region := byteOf m.1, detail := 0x33, addr := a }) := by
  simp only [frameComplete, hh, Option.getD_some, hc, Bool.false_eq_true, if_false]
  rw [State.windowIncident_eq hm ha]
  exact logIncident_of_log hq rfl hl

theorem State.dispatch_onlyChanges (s : State) (h : FrameHeader) : s.onlyChanges (s.dispatch h) [.window] := by
  unfold State.dispatch
  split
  · simp [State.onlyChanges_iff]
  · split <;> simp [State.onlyChanges_iff]

theorem State.dispatch_known {h : FrameHeader} {r : Request} (hr : Request.ofCode h.code = some r) :
    (r.admitsLength h.bodyLength = true → s.dispatch h = s.setWindow { s.window with dispatched := some r }) ∧
    (r.admitsLength h.bodyLength = false → s.dispatch h = s.respond .badArgument []) := by
  refine ⟨fun hl => ?_, fun hl => ?_⟩ <;> simp only [State.dispatch, hr, hl, Bool.false_eq_true, if_false, if_true]

theorem State.dispatch_unknown {h : FrameHeader} (hr : Request.ofCode h.code = none) :
    s.dispatch h = s.respond .unknownRequest [] := by
  simp only [State.dispatch, hr]

/-- Settles O27: a wrong check is answered, a good one starts the execution and is dispatched or answered. -/
theorem completeFrameIsCheckedAndDispatched : Obligations.CompleteFrameIsCheckedAndDispatched := by
  intro s a b m h hp hm hs hh hl h8 hframe frame
  obtain ⟨-, -, -, -, ha, -⟩ := (s.programming_iff _ a).mp hp
  have hexec := exec_programDataByte_last b hp hm hs hl h8 hframe
  refine ⟨fun hc hq => ?_, fun hc => ?_⟩
  · rw [frameComplete_fails (s := s) (t := s.withLast b) rfl hh hc hm ha hq] at hexec
    refine ⟨_, hexec, ?_, rfl, rfl, rfl, rfl, rfl, rfl⟩
    simp [State.onlyChanges_iff, State.withLast, State.countByte, State.discardRest, State.recordIncident]
  · rw [frameComplete_matches (t := s.withLast b) hh hc] at hexec
    refine ⟨_, hexec, State.onlyChanges.trans ?_ ((State.dispatch_onlyChanges _ h).mono (by simp)),
      fun r hr hlen => ?_, fun r hr hlen => ?_, fun hr => ?_⟩
    · simp [State.onlyChanges_iff, State.started, State.withLast, State.countByte, State.discardRest]
    · rw [(State.dispatch_known hr).1 hlen]
      exact ⟨rfl, rfl, rfl, rfl, rfl⟩
    · rw [(State.dispatch_known hr).2 hlen]
      refine ⟨rfl, ?_⟩
      simp [State.started, State.withLast, State.discardRest, Window.executing, Window.completed, hh]
    · rw [State.dispatch_unknown hr]
      refine ⟨rfl, ?_⟩
      simp [State.started, State.withLast, State.discardRest, Window.executing, Window.completed, hh]

/-! ## Response frames and GET_STATUS (R61, R66, R192) -/

@[simp] theorem length_le (n v : Nat) : (le n v).length = n := by
  induction n generalizing v with
  | zero => rfl
  | succ n ih => simp [le, ih]

/-- A value that fits its bytes is read back from them. -/
theorem ofLe_le {n v : Nat} (h : v < 256 ^ n) : ofLe (le n v) = v := by
  induction n generalizing v with
  | zero => simp at h; simp [le, ofLe, h]
  | succ n ih =>
    have hhigh : v / 256 < 256 ^ n := by
      rw [Nat.div_lt_iff_lt_mul (by decide)]
      rwa [pow_succ] at h
    simp only [le, ofLe, ih hhigh, BitVec.toNat_ofNat]
    omega

/-- Settles O28: header, body and check of a response frame. -/
theorem responseFramesCarryTheirCheck : Obligations.ResponseFramesCarryTheirCheck := by
  intro f
  have hunchecked : f.unchecked.length = 8 + f.body.length := by
    simp [ResponseFrame.unchecked]
    omega
  have hheader : f.unchecked = ([0xA5, f.code, f.status.code, f.overrun] ++ le 2 f.tag.toNat ++
      le 2 f.body.length) ++ f.body := rfl
  have hlength : ([0xA5, f.code, f.status.code, f.overrun] ++ le 2 f.tag.toNat ++ le 2 f.body.length).length = 8 := by
    simp
  have hbytes : f.bytes.length - 2 = f.unchecked.length := by
    simp [ResponseFrame.bytes]
  refine ⟨?_, ?_, ?_, ?_⟩
  · simp only [ResponseFrame.bytes, List.length_append, hunchecked, length_le]
    omega
  · rw [frameCheckMatches, hbytes, ResponseFrame.bytes, List.take_left, List.drop_left,
      ofLe_le (frameCheck f.unchecked).isLt, decide_eq_true_iff]
  · rw [ResponseFrame.bytes, hheader, List.append_assoc, List.take_left' hlength]
  · rw [ResponseFrame.bytes, hheader, List.append_assoc, List.drop_left' hlength]

theorem exec_getStatus {b : Booted} (h : s.offers .getStatus = true) (hb : s.boot.outcome = .booted b) :
    exec .getStatus s = .next (s.respond .ok (s.statusBody b)) := by
  change execGetStatus s = _
  rw [execGetStatus, takeRequest_of_offers h, withBooted_of (by exact hb)]
  rfl

/-- Settles O29: the body's fields lie where section 11.4 puts them. -/
theorem getStatusAnswers : Obligations.GetStatusAnswers := by
  intro s b h hb
  refine ⟨_, s.statusBody b, exec_getStatus h hb, by simp [State.onlyChanges_iff], rfl, rfl, rfl, rfl, rfl, rfl,
    rfl, rfl, ?_, rfl, ?_⟩
  · rw [← IncidentLog.newest_toNat]
    rfl
  · cases hd : s.schedule.deadline <;> simp only [State.statusBody, hd, Deadline.field] <;> rfl

end

end Sys2Proof.Machine
end

section
/-! PROOFS. Chapters 6 to 8: closing a stage, the measurements listed, the identity key, quotes, and the update
session. -/

namespace Sys2Proof.Machine

section
variable {s t u : State} {b : Booted}

/-- The part once a request has been taken from the window (R60). -/
def State.taken (s : State) : State :=
  s.setWindow { s.window with dispatched := none }

/-! ## A trigger that fires (R94) -/

theorem offerSequence_restarts {trigger : SeqTrigger} {e : SeqEntry} (he : s.schedule.waiting = some e)
    (ht : e.trigger = trigger) (hr : runActions s e.actions = .restarted u) :
    offerSequence trigger s = .restarted u := by
  rw [offerSequence_fires he ht, hr]
  rfl

theorem offerSequence_advances {trigger : SeqTrigger} {e : SeqEntry} (he : s.schedule.waiting = some e)
    (ht : e.trigger = trigger) (hr : runActions s e.actions = .on u) : offerSequence trigger s =
      .on (u.setSchedule { u.schedule with cursor := u.schedule.cursor + 1 }) := by
  rw [offerSequence_fires he ht, hr]
  rfl

/-! ## CLOSE_STAGE and READ_MEASUREMENTS (R119, R120) -/

/-- The part with an entry closed, before STAGE_CLOSED is raised (R119). -/
def State.stageClosed (s : State) (i : Nat) (e : MeasEntry) : State :=
  s.taken.setStack (s.stack.write i { e with tag := .closed })

theorem exec_closeStage {i : Nat} {e : MeasEntry} (h : s.offers .closeStage = true)
    (ho : s.stack.openTop = some (i, e)) : exec .closeStage s =
      ((offerSequence (.stageClosed e.label) (s.stageClosed i e)).andThen fun u =>
        .on (u.respond .ok ({ e with tag := .closed }.bytes i))).result := by
  change execCloseStage s = _
  rw [execCloseStage, takeRequest_of_offers h]
  simp only [State.setWindow_stack, ho]
  rfl

theorem exec_closeStage_refused (h : s.offers .closeStage = true) (ho : s.stack.openTop = none) :
    exec .closeStage s = refuseStack .refusedState Detail.noOpenStage .stageOrder s.taken := by
  change execCloseStage s = _
  rw [execCloseStage, takeRequest_of_offers h]
  simp only [State.setWindow_stack, ho]
  rfl

/-- An entry's bytes, its last saying whether it is folded (section 11.4). -/
theorem MeasEntry.bytes_eq (i : Nat) (e : MeasEntry) : e.bytes i =
    [byteOf i, e.tag.code] ++ e.label ++ e.value ++ le 2 e.count.toNat ++ [if e.folded then 1 else 0] := by
  cases hf : e.folded <;> simp only [MeasEntry.bytes, hf] <;> rfl

/-- The whole listing holds each entry below the top index (R120). -/
theorem Stack.listing_all {k : Stack} (h : k.top ≤ 8) :
    k.listing (fun _ => true) = (List.range k.top).map fun i => ((k.entries[i]?.map fun e => e.bytes i).getD []) := by
  rw [Stack.listing, Nat.min_eq_left h, ← List.filterMap_eq_map]
  refine List.filterMap_congr fun i hi => ?_
  have hlt : i < 8 := (List.mem_range.mp hi).trans_le h
  simp [Vector.getElem?_eq_getElem hlt]

/-- Settles O37: the entry closed and STAGE_CLOSED offered to the sequence, or the refusal; and the listing. -/
theorem closeStageAndReadMeasurements : Obligations.CloseStageAndReadMeasurements := by
  refine ⟨fun s i e h ho => ?_, fun s h ho hq => ?_, fun s h htop => ?_⟩
  · intro closed body
    have hexec := exec_closeStage h ho
    have hbody : { e with tag := .closed }.bytes i = body := MeasEntry.bytes_eq i _
    refine ⟨fun hw => ?_, fun w u hw ht => ⟨fun hr => ?_, fun hr => ?_⟩⟩
    · rw [offerSequence_discards (by exact hw)] at hexec
      refine ⟨_, hexec, by simp [State.onlyChanges_iff, State.stageClosed, State.taken], rfl, ?_⟩
      rw [State.answered, ← hbody]
      rfl
    · rw [offerSequence_restarts (s := s.stageClosed i e) hw ht hr] at hexec
      exact hexec
    · rw [offerSequence_advances (s := s.stageClosed i e) hw ht hr] at hexec
      refine ⟨_, hexec, by simp [State.onlyChanges_iff], rfl, ?_⟩
      rw [State.answered, ← hbody]
      rfl
  · exact (exec_closeStage_refused h ho).symm ▸ refuseStack_taken hq _ _ _
  · have hexec : exec .readMeasurements s =
        .next (s.respond .ok (byteOf s.stack.top :: (s.stack.listing fun _ => true).flatten)) := by
      change execReadMeasurements s = _
      rw [execReadMeasurements, takeRequest_of_offers h]
      rfl
    refine ⟨_, _, hexec, s.respond_onlyChanges _ _, rfl, by simp [Stack.listing_all htop], fun i e hi he => ?_⟩
    simp [Stack.listing_all htop, hi, he, MeasEntry.bytes_eq]

/-! ## Identity and quotes (chapter 7) -/

/-- The identity key is at least 1 and below the curve's order (R127). -/
theorem Fuses.identityKey_range (f : Fuses) : 1 ≤ f.identityKey ∧ f.identityKey < p256Order := by
  have hpos : 0 < p256Order - 1 := by decide
  have hlt := Nat.mod_lt (ofBe (hmac f.uds identityLabel)) hpos
  unfold Fuses.identityKey
  omega

theorem exec_getIdentity (h : s.offers .getIdentity = true) :
    exec .getIdentity s = .next (s.taken.setJob (.deriveIdentity s.fuses.identity)) := by
  change execGetIdentity s = _
  rw [execGetIdentity, takeRequest_of_offers h]
  rfl

theorem exec_keyDerivationComplete {key : IdentityKey} (ha : s.alive = true) (hj : s.job = .deriveIdentity key)
    (hb : s.boot.outcome = .booted b) :
    exec .keyDerivationComplete s = .next ((s.setJob .idle).respond .ok (s.identityBody b key.q)) := by
  change execKeyDerivationComplete s = _
  simp only [execKeyDerivationComplete, ha, hj, if_true, withBooted_of hb]

/-- The part with its quote counter raised (R131). -/
def State.counted (s : State) : State :=
  s.taken.setQuote { s.quote with counter := satInc s.quote.counter }

theorem exec_quote {epoch : Nat} (h : s.offers .quote = true) (hb : s.boot.outcome = .booted b)
    (he : s.quote.startEpoch = some epoch) : exec .quote s =
      .next (s.counted.setJob (.signQuote s.fuses.identity (s.counted.quoteBody b epoch
        (slice s.window.requestBody 0 32) (byteAt s.window.requestBody 32)))) := by
  change execQuote s = _
  rw [execQuote, takeRequest_of_offers h, withBooted_of (by exact hb)]
  simp only [State.setWindow_quote, he, State.counted]
  rfl

theorem exec_quoteSigned {key : IdentityKey} {body : Bytes} (ha : s.alive = true)
    (hj : s.job = .signQuote key body) :
    exec .quoteSigned s = .next ((s.setJob .idle).respond .ok (body ++ quoteSignature key.d body)) := by
  change execQuoteSigned s = _
  simp only [execQuoteSigned, ha, hj, if_true]

/-- Settles O38: the key's derivation, and the two requests with their completions. -/
theorem identityAndQuoteRequests : Obligations.IdentityAndQuoteRequests := by
  refine ⟨fun f => ⟨rfl, f.identityKey_range.1, f.identityKey_range.2, fun x y hp => ?_⟩, fun s h => ?_,
    fun s b key ha hj hb => ?_, fun s b epoch h hb he => ?_, fun s key body ha hj => ?_⟩
  · have hpoint : publicPoint f.identityKey = some (x, y) := hp
    change f.identityPoint = _
    simp only [Fuses.identityPoint, hpoint]
  · exact ⟨_, exec_getIdentity h, by simp [State.onlyChanges_iff, State.taken], rfl, rfl⟩
  · exact ⟨_, exec_keyDerivationComplete ha hj hb, by simp [State.onlyChanges_iff], rfl, rfl⟩
  · intro request mask counter listed
    refine ⟨_, exec_quote h hb he, by simp [State.onlyChanges_iff, State.counted, State.taken], rfl, rfl, ?_⟩
    rw [State.setJob_job]
    rfl
  · refine ⟨_, exec_quoteSigned ha hj, by simp [State.onlyChanges_iff], rfl, ?_⟩
    rw [State.answered, List.append_assoc]
    rfl

/-! ## The update session (R144, R145, R150) -/

theorem exec_openUpdate (h : s.offers .openUpdate = true) (hb : s.boot.outcome = .booted b) :
    (b.verdict = .trial ∨ s.session ≠ .closed ∨ s.store.slots.pending ≠ none →
      exec .openUpdate s = .next (s.respond .refusedState [])) ∧
    (b.verdict ≠ .trial → s.session = .closed → s.store.slots.pending = none →
      exec .openUpdate s = .next ((s.setSession .opened).respond .ok [b.target.code, 1])) := by
  have hexec : exec .openUpdate s = execOpenUpdate s := rfl
  rw [hexec, execOpenUpdate, takeRequest_of_offers h, withBooted_of (by exact hb)]
  refine ⟨fun hr => ?_, fun ht hs hp => ?_⟩
  · exact if_pos (hr.imp_right (Or.imp_right Option.isSome_iff_ne_none.mpr))
  · refine if_neg ?_
    rintro (hx | hx | hx)
    · exact ht hx
    · exact hx hs
    · exact Option.isSome_iff_ne_none.mp hx hp

/-- The part with the port taken for a staging check (R145). -/
def State.staging (s : State) : State :=
  (s.taken.setSession .verifying).takePort.setJob .stageWait

theorem exec_stageUpdate (h : s.offers .stageUpdate = true) :
    (s.session = .opened → exec .stageUpdate s = .next s.staging.engineTurn) ∧
    (s.session ≠ .opened → exec .stageUpdate s = .next (s.respond .refusedState [])) := by
  have hexec : exec .stageUpdate s = execStageUpdate s := rfl
  rw [hexec, execStageUpdate, takeRequest_of_offers h]
  exact ⟨fun hs => if_pos hs, fun hs => if_neg hs⟩

/-- ABORT_UPDATE outside a staging check: at once, or by the pending-cleared write (R150). -/
theorem exec_abortUpdate (h : s.offers .abortUpdate = true) :
    (s.session = .closed ∨ s.session = .opened →
      exec .abortUpdate s = .next ((s.setSession .closed).respond .ok [0, slotCode s.store.slots.pending])) ∧
    (s.session = .staged → exec .abortUpdate s = .next (s.taken.beginWrite .abortPending)) := by
  have hexec : exec .abortUpdate s = execAbortUpdate s := rfl
  rw [hexec, execAbortUpdate, takeRequest_of_offers h]
  refine ⟨fun hs => ?_, fun hs => ?_⟩
  · rcases hs with hs | hs <;> simp only [State.setWindow_session, hs]
    · have hsame : s.setSession .closed = s := by rw [← hs]; rfl
      rw [hsame]
      simp [State.answerAbort, hs, Session.code]
    · rfl
  · simp only [State.setWindow_session, hs]
    rfl

/-- Settles O39: the three requests by the session, and an abort's write. -/
theorem updateSessionRequests : Obligations.UpdateSessionRequests := by
  refine ⟨fun s b h hb => ?_, fun s h => ?_, fun s h hv => ?_, fun s ha hw => ?_⟩
  · obtain ⟨hrefused, hopened⟩ := exec_openUpdate h hb
    by_cases hr : b.verdict = .trial ∨ s.session ≠ .closed ∨ s.store.slots.pending ≠ none
    · refine ⟨_, hrefused hr, fun _ => ⟨s.respond_onlyChanges _ _, rfl⟩, fun ht hs hp => ?_⟩
      exact absurd hr (by simp [ht, hs, hp])
    · have hr' := hr
      simp only [not_or, not_not] at hr'
      obtain ⟨ht, hs, hp⟩ := hr'
      exact ⟨_, hopened ht hs hp, fun hx => absurd hx hr, fun _ _ _ => ⟨by simp [State.onlyChanges_iff], rfl, rfl⟩⟩
  · obtain ⟨hstaging, hrefused⟩ := exec_stageUpdate h
    by_cases hs : s.session = .opened
    · refine ⟨_, hstaging hs, fun hx => absurd hs hx, fun _ => ⟨?_, by simp [State.staging], by simp [State.staging],
        State.engineTurn_owner _, ?_, by simp [State.staging, State.taken], fun ho hf => ?_, fun hx => ?_⟩⟩
      · simp [State.onlyChanges_iff, State.staging, State.taken]
      · rw [(engineTurn_spec _).1]
        rfl
      · rw [State.engineTurn_wait (.inl rfl) (by exact ho) (by exact hf)]
        rfl
      · have hturn : s.staging.engineTurn = s.staging := by
          rcases hx with hf | hm
          · refine engineTurn_open fun hn => ?_
            rw [show s.port.openTx = _ from hn] at hf
            cases hf
          · exact engineTurn_mayForward hm
        rw [hturn]
        rfl
    · exact ⟨_, hrefused hs, fun _ => ⟨s.respond_onlyChanges _ _, rfl⟩, fun hx => absurd hx hs⟩
  · obtain ⟨hclosed, hstaged⟩ := exec_abortUpdate h
    by_cases hs : s.session = .staged
    · exact ⟨_, hstaged hs, fun hx => absurd hs hx, fun _ =>
        ⟨by simp [State.onlyChanges_iff, State.taken], rfl, rfl⟩⟩
    · have hother : s.session = .closed ∨ s.session = .opened := by
        cases hc : s.session <;> simp_all
      exact ⟨_, hclosed hother, fun _ => ⟨by simp [State.onlyChanges_iff], rfl, rfl⟩, fun hx => absurd hx hs⟩
  · refine ⟨abortEffect (s.setWrite none), exec_writeTakesEffect ha hw, ?_, rfl, rfl, rfl, rfl⟩
    simp [State.onlyChanges_iff, abortEffect, State.answerAbort]

end

end Sys2Proof.Machine
end

section
/-! PROOFS. Chapter 8: the staging check's end, ready waits, and CONFIRM_BOOT with its three writes. -/

namespace Sys2Proof.Machine

section
variable {s t u : State} {b : Booted}

/-! ## The staging check's end (R146, R147) -/

/-- The part once the staging check has been made, before its outcome (R145). -/
def State.checked (s : State) : State :=
  (s.setJob .idle).setPort { s.port with openTx := .none }

theorem exec_stageCheckComplete_pass {copy content : FlashImage} {m : Manifest} {bs : Bytes}
    (ha : s.alive = true) (hj : s.job = .stageCheck) (hb : s.boot.outcome = .booted b)
    (h : manifestCheck s.fuses (s.stageInput b) copy content = .pass m bs) :
    exec (.stageCheckComplete copy content) s = .next (s.checked.beginWrite (.pendingSet
      { slot := b.target, keyIndex := m.params.keyIndex, securityVersion := m.params.securityVersion
        imageVersion := m.params.imageVersion, epoch := s.epoch })) := by
  change execStageCheckComplete copy content s = _
  simp only [execStageCheckComplete, ha, hj, if_true, withBooted_of hb, h]
  rfl

/-- The part once a failed staging check is logged (R147). -/
def State.stageRejected (s : State) (b : Booted) (reason : VerifyReason) (region : Byte) : State :=
  (s.checked.setSession .opened).recordIncident
    (plainIncident .stageFailed region reason.code (s.fuses.manifestAddress b.target))

theorem exec_stageCheckComplete_fail {copy content : FlashImage} {reason : VerifyReason} {region : Byte}
    {version : Nat} (ha : s.alive = true) (hj : s.job = .stageCheck) (hb : s.boot.outcome = .booted b)
    (h : manifestCheck s.fuses (s.stageInput b) copy content = .fail reason region version)
    (hq : s.quiet .stageFailed = true) : exec (.stageCheckComplete copy content) s =
      .next ((s.stageRejected b reason region).returnPort.respond reason.stageStatus
        ([reason.code, region] ++ le 2 version ++ [byteOf s.epoch])) := by
  change execStageCheckComplete copy content s = _
  simp only [execStageCheckComplete, ha, hj, if_true, withBooted_of hb, h, stageFailed]
  rw [logIncident_of_log hq] <;> rfl

theorem VerifyReason.stageStatus_eq (reason : VerifyReason) :
    reason.stageStatus = if reason = .rollback then .rollback else .verifyFailed := by
  cases reason <;> rfl

/-- Settles O40: a pass begins the pending-set write, which stages; a fail is logged and answered. -/
theorem stagingCheckEnds : Obligations.StagingCheckEnds := by
  refine ⟨fun s b copy content m bs ha hj hb h => ?_, fun s g ha hw => ?_,
    fun s b copy content reason region version ha hj hb h hq => ?_⟩
  · exact ⟨_, exec_stageCheckComplete_pass ha hj hb h, by simp [State.onlyChanges_iff, State.checked], rfl, rfl, rfl,
      rfl⟩
  · refine ⟨pendingSetEffect g (s.setWrite none), exec_writeTakesEffect ha hw, ?_, rfl, rfl, rfl, rfl, rfl, rfl⟩
    simp [State.onlyChanges_iff, pendingSetEffect]
  · rw [← reason.stageStatus_eq]
    refine ⟨_, exec_stageCheckComplete_fail ha hj hb h hq, ?_, rfl, rfl, rfl, rfl, rfl, rfl⟩
    simp [State.onlyChanges_iff, State.stageRejected, State.checked, State.recordIncident]

/-! ## Ready waits (R18 to R20) -/

theorem exec_readyWaitPoll {status : Byte} (ha : s.alive = true)
    (ho : (∃ e, s.port.openTx = .engineStatus e) ∨ ∃ we er p, s.port.openTx = .engineErase we er p) :
    exec (.readyWaitPoll status) s =
      if status.getLsbD s.fuses.busyBit then .next s.pollAgain else readyWaitDone s := by
  change execReadyWaitPoll status s = _
  rcases ho with ⟨e, ho⟩ | ⟨we, er, p, ho⟩ <;> simp only [execReadyWaitPoll, ha, ho, if_true]

/-- One more row is passed over, is the first admitted, or is the better or not of two (R19, R20). -/
theorem lowestRow_concat (rows : List ClassRow) (r : ClassRow) (admitted : ClassEntry → Bool) :
    (admitted r.entry = false → lowestRow (rows ++ [r]) admitted = lowestRow rows admitted) ∧
    (admitted r.entry = true → lowestRow rows admitted = none → lowestRow (rows ++ [r]) admitted = some r) ∧
    (∀ best, admitted r.entry = true → lowestRow rows admitted = some best →
      lowestRow (rows ++ [r]) admitted = if r.byte.toNat < best.byte.toNat then some r else some best) := by
  unfold lowestRow
  refine ⟨fun ha => ?_, fun ha hn => ?_, fun best ha hb => ?_⟩
  · simp [List.foldl_append, ha]
  · simp [List.foldl_append, ha, hn]
  · simp [List.foldl_append, ha, hb]

/-- The row that the engine uses has the lowest instruction byte of those admitted (R19, R20). -/
theorem lowestRow_lowest (rows : List ClassRow) {admitted : ClassEntry → Bool} {p : ClassEntry → Prop}
    (hp : ∀ e, admitted e = true ↔ p e) : lowestOf rows p (lowestRow rows admitted) := by
  induction rows using List.reverseRecOn with
  | nil => exact ⟨fun r hr => (by cases hr), fun _ other hmem => (by cases hmem)⟩
  | append_singleton rows r ih =>
    obtain ⟨hsome, hnone⟩ := ih
    obtain ⟨hpassed, hfirst, hbetter⟩ := lowestRow_concat rows r admitted
    have hr : admitted r.entry = true ↔ p r.entry := hp _
    cases ha : admitted r.entry with
    | false =>
      rw [hpassed ha]
      grind [lowestOf]
    | true =>
      cases hbest : lowestRow rows admitted with
      | none =>
        rw [hfirst ha hbest]
        grind [lowestOf]
      | some best =>
        rw [hbetter best ha hbest]
        grind [lowestOf]

/-- Settles O41: polls, what waited for the last, the rows of a granule's erase, and its report. -/
theorem readyWaits : Obligations.ReadyWaits := by
  refine ⟨fun s status e ha ho hbusy => ?_, fun s status we er p ha ho hbusy => ?_,
    fun s status ha ho hbusy => ?_, fun s m => ?_, fun s ha hj => ?_⟩
  · rw [exec_readyWaitPoll ha (.inl ⟨e, ho⟩), if_pos hbusy]
    simp only [State.pollAgain, ho]
  · refine ⟨s.setPort { s.port with openTx := .engineStatus (pollOf s.classes) }, ?_,
      by simp [State.onlyChanges_iff], rfl⟩
    rw [exec_readyWaitPoll ha (.inr ⟨we, er, p, ho⟩), if_pos hbusy]
    simp only [State.pollAgain, ho]
  · have hexec : exec (.readyWaitPoll status) s = readyWaitDone s := by
      rw [exec_readyWaitPoll ha ho, if_neg (ne_true_of_eq_false hbusy)]
    let rested : State := (s.setJob .idle).setPort { s.port with openTx := .none }
    refine ⟨fun b hj hb => ?_, fun hj hsample => ?_, fun asserted hj hsample hp hw => ?_, fun m hj hm => ?_,
      fun hj => ?_⟩ <;> simp only [readyWaitDone, hj] at hexec
    · rw [withBooted_of hb] at hexec
      exact ⟨_, hexec, by simp [State.onlyChanges_iff], rfl, rfl, rfl⟩
    · have htry : rested.trySelect = rested := by
        simp only [State.trySelect, rested, State.setPort_boot, State.setJob_boot, hsample]
      refine ⟨rested, hexec.trans (congrArg _ htry), by simp [State.onlyChanges_iff, rested], rfl, rfl⟩
    · have htry : rested.trySelect = rested.beginSelection asserted := State.trySelect_of hsample hp rfl hw
      refine ⟨_, hexec.trans (congrArg _ htry), State.onlyChanges.trans ?_
        ((rested.beginSelection_onlyChanges asserted).mono (by simp)), ?_⟩
      · simp [State.onlyChanges_iff, rested]
      · exact State.beginSelection_begins (s := rested) rfl hw asserted
    · simp only [hm] at hexec
      exact ⟨_, hexec, by simp [State.onlyChanges_iff], rfl, rfl⟩
    · exact ⟨_, hexec, by simp [State.onlyChanges_iff], rfl, rfl⟩
  · exact ⟨_, _, rfl, lowestRow_lowest _ fun e => decide_eq_true_iff, lowestRow_lowest _ fun e => by simp⟩
  · refine ⟨(s.setJob .idle).beginWrite .markerAdvance, ?_, by simp [State.onlyChanges_iff], rfl, rfl⟩
    change execEngineGranuleErase s = _
    simp only [execEngineGranuleErase, ha, hj, if_true]

end

end Sys2Proof.Machine
end

section
/-! PROOFS. CONFIRM_BOOT: its steps, its writes and its end (R152 to R158). -/

namespace Sys2Proof.Machine

section
variable {s t u : State} {b : Booted}

/-! ## The thermometer (R152) -/

theorem getLsbD_thermometer (n i : Nat) : (thermometer n).getLsbD i = (decide (i < 64) && decide (i < n)) := by
  simp [thermometer, BitVec.getLsbD_ofNat, Nat.testBit_two_pow_sub_one]

/-- Two thermometers blown together are the higher one. -/
theorem thermometer_or (m n : Nat) : thermometer m ||| thermometer n = thermometer (max m n) := by
  refine BitVec.eq_of_getLsbD_eq fun i hi => ?_
  rw [BitVec.getLsbD_or, getLsbD_thermometer, getLsbD_thermometer, getLsbD_thermometer]
  simp [hi]

theorem countP_range_lt (k n : Nat) : (List.range k).countP (fun i => decide (i < n)) = min k n := by
  induction k with
  | zero => simp
  | succ k ih =>
    rw [List.range_succ, List.countP_append, ih, List.countP_singleton]
    split <;> simp_all <;> omega

/-- The number that a thermometer shows (R152). -/
theorem epochValue_thermometer {n : Nat} (h : n ≤ 64) : epochValue (thermometer n) = n := by
  have hbits : ∀ i ∈ List.range 64, (thermometer n).getLsbD i = true ↔ decide (i < n) = true := fun i hi => by
    rw [getLsbD_thermometer, decide_eq_true (List.mem_range.mp hi), Bool.true_and]
  rw [epochValue, List.countP_congr hbits, countP_range_lt, Nat.min_eq_right h]

theorem State.epoch_le (s : State) : s.epoch ≤ 64 :=
  List.countP_le_length.trans_eq List.length_range

/-! ## What actions leave of the nonvolatile state -/

theorem runActions_acted {actions : List Action} (h : runActions s actions = .on u) : Acted s u := by
  rcases runActions_spec actions s with ⟨v, hv, k⟩ | ⟨v, hv, -⟩
  · cases h.symm.trans hv
    exact k
  · cases h.symm.trans hv

/-- Actions write neither the Record Store nor the Fuse Block (R141). -/
theorem Acted.nonvolatile (k : Acted s t) : t.store = s.store ∧ t.fuses = s.fuses := by
  constructor <;> rw [k.frame]

/-! ## The end of a confirm (R158) -/

theorem finishConfirm_eq (c : ConfirmSteps) (s : State) : finishConfirm c s =
    (offerSequence .confirmed (s.setDeadline .stopped)).andThen fun t => .on (t.respond .ok (t.confirmBody c)) :=
  rfl

/-- The body names records that actions leave. -/
theorem State.confirmBody_acted (k : Acted (s.setDeadline .stopped) u) (c : ConfirmSteps) :
    u.confirmBody c = s.confirmBody c := by
  have hstore : u.store = s.store := k.nonvolatile.1
  have hfuses : u.fuses = s.fuses := k.nonvolatile.2
  simp only [State.confirmBody, State.epoch, hstore, hfuses]

/-- A confirm ends as R158 says, its steps byte holding the bits of the steps performed. -/
theorem finishConfirm_confirmed (c : ConfirmSteps) (s : State) :
    s.confirmedWith (finishConfirm c s).state (stepBits c.slotState c.epoch c.revocation) := by
  rw [← c.byte_eq]
  refine ⟨fun hw => ?_, fun w u hw ht => ⟨fun hr => ?_, fun hr => ?_⟩⟩
  · rw [finishConfirm_discards c hw]
    exact ⟨by simp [State.onlyChanges_iff, State.setDeadline], rfl, rfl⟩
  · rw [finishConfirm_eq, offerSequence_restarts (s := s.setDeadline .stopped) hw ht hr]
    rfl
  · rw [finishConfirm_eq, offerSequence_advances (s := s.setDeadline .stopped) hw ht hr, Flow.on_andThen,
      Flow.on_state]
    refine ⟨by simp [State.onlyChanges_iff], rfl, ?_⟩
    have hbody : u.confirmBody c = s.confirmBody c := State.confirmBody_acted (runActions_acted hr) c
    exact congrArg (u.window.completed .ok) hbody

theorem finishConfirm_nonvolatile (c : ConfirmSteps) (s : State) :
    (finishConfirm c s).state.store = s.store ∧ (finishConfirm c s).state.fuses = s.fuses := by
  have hacted : ActedFlow (s.setDeadline .stopped) (offerSequence .confirmed (s.setDeadline .stopped)) :=
    offerSequence_spec _ _
  rw [finishConfirm_eq]
  rcases hacted with ⟨v, hv, k⟩ | ⟨v, hv, k⟩ <;> rw [hv] <;> exact k.nonvolatile

/-! ## The steps called for (R153, R155 to R157) -/

/-- The revocation is written where it is called for and not yet made; else the confirm ends (R155, R156). -/
theorem confirmRevocation_spec (b : Booted) (c : ConfirmSteps) (s : State) :
    (b.params.revokeOther = true → s.fuses.otherRevoked b.params = false →
      confirmRevocation b c s = .on (s.beginWrite (.confirmRevoke c))) ∧
    (b.params.revokeOther = false ∨ s.fuses.otherRevoked b.params = true →
      confirmRevocation b c s = finishConfirm c s) := by
  unfold confirmRevocation
  refine ⟨fun hr ho => ?_, fun h => ?_⟩
  · simp [hr, ho]
  · rcases h with h | h <;> simp [h]

/-- The epoch is written where it lies below min(S, 64); else the revocation follows (R153, R156). -/
theorem confirmEpoch_spec (b : Booted) (c : ConfirmSteps) (s : State) :
    (s.epoch < min b.params.securityVersion 64 → confirmEpoch b c s = .on (s.beginWrite (.confirmEpoch c))) ∧
    (min b.params.securityVersion 64 ≤ s.epoch → confirmEpoch b c s = confirmRevocation b c s) :=
  ⟨fun h => if_pos h, fun h => if_neg (Nat.not_lt.mpr h)⟩

/-! ## CONFIRM_BOOT (R156, R157) -/

theorem exec_confirmBoot (h : s.offers .confirmBoot = true) (hb : s.boot.outcome = .booted b) :
    (b.verdict = .recovery → exec .confirmBoot s = .next (s.respond .refusedState [])) ∧
    (b.verdict ≠ .recovery → exec .confirmBoot s = (confirmSlots b s.taken).result) := by
  have hexec : exec .confirmBoot s = execConfirmBoot s := rfl
  rw [hexec, execConfirmBoot, takeRequest_of_offers h, withBooted_of (by exact hb)]
  exact ⟨fun hv => if_pos hv, fun hv => if_neg hv⟩

/-- The slot state that the verdict calls for (R157). -/
theorem confirmedSlots_of {slot : Slot} (hr : b.running = slot.run) :
    (b.verdict = .trial → s.confirmedSlots b = { committed := slot, pending := none, trials := 0 }) ∧
    (b.verdict = .fallback → s.confirmedSlots b = { s.store.slots with committed := slot }) := by
  have hslot : b.running.slot = some slot := by
    rw [hr]
    cases slot <;> rfl
  refine ⟨fun hv => ?_, fun hv => ?_⟩ <;> simp only [State.confirmedSlots, hv, hslot]

/-- Where no write of the slot state is called for (R157). -/
theorem confirmedSlots_same (h : b.verdict = .normal ∨ ∃ slot : Slot, b.running = slot.run ∧
      ((b.verdict = .trial ∧ s.store.slots = { committed := slot, pending := none, trials := 0 }) ∨
        (b.verdict = .fallback ∧ s.store.slots.committed = slot))) :
    s.confirmedSlots b = s.store.slots := by
  rcases h with hv | ⟨slot, hr, ⟨hv, hs⟩ | ⟨hv, hs⟩⟩
  · simp only [State.confirmedSlots, hv]
  · rw [(confirmedSlots_of hr).1 hv, hs]
  · rw [(confirmedSlots_of hr).2 hv, ← hs]

theorem confirmSlots_spec (b : Booted) (s : State) :
    (s.confirmedSlots b ≠ s.store.slots →
      confirmSlots b s = .on (s.beginWrite (.confirmSlot (s.confirmedSlots b)))) ∧
    (s.confirmedSlots b = s.store.slots →
      confirmSlots b s = confirmEpoch b { slotState := false, epoch := false, revocation := false } s) :=
  ⟨fun h => if_pos h, fun h => if_neg (not_not.mpr h)⟩

/-- A write begun from a taken request. -/
theorem State.taken_beginWrite_onlyChanges (s : State) (w : Write) :
    s.onlyChanges (s.taken.beginWrite w) [.window, .write] := by
  simp [State.onlyChanges_iff, State.taken]

/-- Settles O42: the refusal in RECOVERY, the first step that would change something, or the end. -/
theorem confirmBootRequest : Obligations.ConfirmBootRequest := by
  intro s b h hb taken
  obtain ⟨hrefused, hsteps⟩ := exec_confirmBoot h hb
  obtain ⟨hwrites, hsame⟩ := confirmSlots_spec b s.taken
  by_cases hv : b.verdict = .recovery
  · refine ⟨_, hrefused hv, fun _ => ⟨s.respond_onlyChanges _ _, rfl⟩, fun slot _ ht => ?_, fun slot _ hf => ?_,
      fun hn => ?_⟩
    · exact absurd (hv.symm.trans ht) (by simp)
    · exact absurd (hv.symm.trans hf) (by simp)
    · exact absurd hn (by simp [hv])
  · refine ⟨_, hsteps hv, fun hx => absurd hx hv, fun slot hr ht hne => ?_, fun slot hr hf hne => ?_,
      fun hn => ⟨fun he => ?_, fun he hro hor => ?_, fun he hno => ?_⟩⟩
    · have hslots := (confirmedSlots_of (s := s.taken) hr).1 ht
      rw [hwrites (by rw [hslots]; exact hne.symm), hslots]
      exact ⟨s.taken_beginWrite_onlyChanges _, rfl⟩
    · have hslots := (confirmedSlots_of (s := s.taken) hr).2 hf
      rw [hwrites (by rw [hslots]; exact fun hx => hne (congrArg SlotState.committed hx).symm), hslots]
      exact ⟨s.taken_beginWrite_onlyChanges _, rfl⟩
    · rw [hsame (confirmedSlots_same (s := s.taken) hn), (confirmEpoch_spec b _ s.taken).1 he]
      exact ⟨s.taken_beginWrite_onlyChanges _, rfl⟩
    · rw [hsame (confirmedSlots_same (s := s.taken) hn), (confirmEpoch_spec b _ s.taken).2 he,
        (confirmRevocation_spec b _ s.taken).1 hro hor]
      exact ⟨s.taken_beginWrite_onlyChanges _, rfl⟩
    · rw [hsame (confirmedSlots_same (s := s.taken) hn), (confirmEpoch_spec b _ s.taken).2 he,
        (confirmRevocation_spec b _ s.taken).2 hno]
      exact finishConfirm_confirmed _ s.taken

/-! ## The writes (R153, R155, R157) -/

/-- The steps from the revocation on leave the nonvolatile state to their writes. -/
theorem confirmRevocation_nonvolatile (b : Booted) (c : ConfirmSteps) (s : State) :
    (confirmRevocation b c s).state.store = s.store ∧ (confirmRevocation b c s).state.fuses = s.fuses := by
  unfold confirmRevocation
  split
  · exact ⟨rfl, rfl⟩
  · exact finishConfirm_nonvolatile c s

theorem confirmEpoch_nonvolatile (b : Booted) (c : ConfirmSteps) (s : State) :
    (confirmEpoch b c s).state.store = s.store ∧ (confirmEpoch b c s).state.fuses = s.fuses := by
  unfold confirmEpoch
  split
  · exact ⟨rfl, rfl⟩
  · exact confirmRevocation_nonvolatile b c s

theorem State.beginWrite_onlyChanges (s : State) (w : Write) : s.onlyChanges (s.beginWrite w) [.write] := by
  simp [State.onlyChanges_iff]

/-- The part with the epoch raised (R153). -/
def State.epochRaised (s : State) (called : Nat) : State :=
  { s with fuses := { s.fuses with epochBits := thermometer (max s.epoch called) }, write := none }

theorem State.epochRaised_epoch (s : State) {called : Nat} (h : called ≤ 64) :
    (s.epochRaised called).epoch = max s.epoch called :=
  epochValue_thermometer (Nat.max_le.mpr ⟨s.epoch_le, h⟩)

/-- The epoch write blows the bits up to the larger of the two (R153). -/
theorem confirmEpochEffect_eq (hbits : s.fuses.epochBits = thermometer s.epoch) (c : ConfirmSteps) :
    confirmEpochEffect c b (s.setWrite none) = confirmRevocation b { c with epoch := true }
      (s.epochRaised (min b.params.securityVersion 64)) := by
  have hraised : s.fuses.epochBits ||| thermometer b.params.epochCalled =
      thermometer (max s.epoch (min b.params.securityVersion 64)) := by
    rw [hbits, thermometer_or]
    rfl
  rw [State.epochRaised, ← hraised]
  rfl

/-- Settles O43: each write, and the step or the end that follows it. -/
theorem confirmWrites : Obligations.ConfirmWrites := by
  refine ⟨fun s b v ha hb hw => ?_, fun s b c ha hb hw hbits => ?_, fun s b c revoked ha hb hw hkey => ?_⟩
  · intro written
    have hexec : exec .writeTakesEffect s = .next (confirmEpoch b
        { slotState := true, epoch := false, revocation := false } written).state :=
      (exec_writeTakesEffect ha hw).trans (withBooted_of (by exact hb) _)
    obtain ⟨hstore, hfuses⟩ := confirmEpoch_nonvolatile b
      { slotState := true, epoch := false, revocation := false } written
    refine ⟨_, hexec, hstore, hfuses, fun he => ?_, fun he => ⟨fun hro hor => ?_, fun hno => ?_⟩⟩
    · rw [(confirmEpoch_spec b _ written).1 he]
      exact ⟨written.beginWrite_onlyChanges _, rfl⟩
    · rw [(confirmEpoch_spec b _ written).2 he, (confirmRevocation_spec b _ written).1 hro hor]
      exact ⟨written.beginWrite_onlyChanges _, rfl⟩
    · rw [(confirmEpoch_spec b _ written).2 he, (confirmRevocation_spec b _ written).2 hno]
      exact finishConfirm_confirmed _ written
  · intro raised
    have hexec : exec .writeTakesEffect s =
        .next (confirmRevocation b { c with epoch := true } raised).state := by
      rw [exec_writeTakesEffect ha hw]
      refine (withBooted_of (by exact hb) _).trans ?_
      rw [confirmEpochEffect_eq hbits]
      rfl
    obtain ⟨hstore, hfuses⟩ := confirmRevocation_nonvolatile b { c with epoch := true } raised
    have hraised : raised.epoch = max s.epoch (min b.params.securityVersion 64) :=
      s.epochRaised_epoch (Nat.min_le_right _ _)
    refine ⟨_, hexec, hstore, hfuses, ?_, fun hro hor => ?_, fun hno => ?_⟩
    · rw [State.epoch, hfuses]
      exact hraised
    · rw [(confirmRevocation_spec b _ raised).1 hro (by exact hor)]
      exact ⟨raised.beginWrite_onlyChanges _, rfl⟩
    · rw [(confirmRevocation_spec b _ raised).2 (by exact hno)]
      exact finishConfirm_confirmed _ raised
  · have hrevoked : s.fuses.revokeOther b.params = revoked := by
      rcases hkey with ⟨hk, rfl⟩ | ⟨hk, rfl⟩ <;> simp [Fuses.revokeOther, hk]
    have hexec : exec .writeTakesEffect s = .next (finishConfirm { c with revocation := true }
        { s with fuses := revoked, write := none }).state := by
      rw [exec_writeTakesEffect ha hw, ← hrevoked]
      exact withBooted_of (by exact hb) _
    obtain ⟨hstore, hfuses⟩ := finishConfirm_nonvolatile { c with revocation := true }
      { s with fuses := revoked, write := none }
    exact ⟨_, hexec, hstore, hfuses, finishConfirm_confirmed _ _⟩

end

end Sys2Proof.Machine
end

section
/-! PROOFS. Chapter 9: the owner's and the recovery requests, comparisons, and failed attempts. -/

namespace Sys2Proof.Machine

section
variable {s t u : State} {b : Booted}

/-- A request that ends with its answer changes the window alone. -/
theorem answers_of {i : Instr} {status : Status} {body : Bytes} (ht : exec i s = .next t)
    (h : exec i s = .next (s.respond status body)) : s.onlyChanges t [.window] ∧ s.answered t status body := by
  cases ht.symm.trans h
  exact ⟨s.respond_onlyChanges _ _, rfl⟩

/-! ## The refusals that requests share (R164) -/

theorem unlessFrozen_frozen (h : s.cred.frozen = true) (go : Result) :
    unlessFrozen s go = .next (s.respond .frozen []) :=
  if_pos h

theorem unlessFrozen_of (h : s.cred.frozen = false) (go : Result) : unlessFrozen s go = go :=
  if_neg (ne_true_of_eq_false h)

/-- FROZEN and the store state refuse in that order (R164 checks 2 and 3). -/
theorem ownedChange_refused {status : Status} (h : s.changesRefused status) (go : Result) :
    unlessFrozen s (whereOwned s go) = .next (s.respond status []) := by
  rcases h with ⟨hf, rfl⟩ | ⟨hf, hs, rfl⟩ | ⟨hf, hs, rfl⟩ | ⟨hf, hs, hm, rfl⟩
  · exact unlessFrozen_frozen hf _
  · rw [unlessFrozen_of hf]
    simp only [whereOwned, hs]
  · rw [unlessFrozen_of hf]
    simp only [whereOwned, hs]
  · rw [unlessFrozen_of hf]
    simp only [whereOwned, hs, State.wipePending, hm, if_true]

theorem ownedChange_admitted (h : s.changesAdmitted) (go : Result) : unlessFrozen s (whereOwned s go) = go := by
  obtain ⟨hf, hs | ⟨hs, hm⟩⟩ := h <;> rw [unlessFrozen_of hf]
  · simp only [whereOwned, hs]
  · simp [whereOwned, hs, State.wipePending, hm]

/-- The store refuses such a request or admits it (R164). -/
theorem State.changes_cases (s : State) : (∃ status, s.changesRefused status) ∨ s.changesAdmitted := by
  cases hf : s.cred.frozen with
  | true => exact .inl ⟨_, .inl ⟨hf, rfl⟩⟩
  | false =>
    cases hs : s.cred.state with
    | unlocked => exact .inr ⟨hf, .inl hs⟩
    | locked => exact .inl ⟨_, .inr (.inl ⟨hf, hs, rfl⟩)⟩
    | lockedOut => exact .inl ⟨_, .inr (.inr (.inl ⟨hf, hs, rfl⟩))⟩
    | unset =>
      cases hm : s.store.marker with
      | none => exact .inr ⟨hf, .inr ⟨hs, hm⟩⟩
      | some m => exact .inl ⟨_, .inr (.inr (.inr ⟨hf, hs, by rw [hm]; rfl, rfl⟩))⟩

/-- A request whose change the store refuses or admits answers, or goes on (R164). -/
theorem exec_ownedChange {request : Instr} {go : Result}
    (hexec : exec request s = unlessFrozen s.taken (whereOwned s.taken go)) (hgo : ∃ v, go = .next v) :
    ∃ t, exec request s = .next t ∧
      (∀ status, s.changesRefused status → s.onlyChanges t [.window] ∧ s.answered t status []) ∧
      (s.changesAdmitted → go = .next t) := by
  have hrefused : ∀ status, s.changesRefused status → exec request s = .next (s.respond status []) :=
    fun status h => hexec.trans (ownedChange_refused (s := s.taken) h go)
  have hadmitted : s.changesAdmitted → exec request s = go :=
    fun h => hexec.trans (ownedChange_admitted (s := s.taken) h go)
  obtain ⟨t, ht⟩ : ∃ t, exec request s = .next t := by
    rcases s.changes_cases with ⟨status, h⟩ | h
    · exact ⟨_, hrefused status h⟩
    · exact hgo.imp fun v hv => (hadmitted h).trans hv
  exact ⟨t, ht, fun status h => answers_of ht (hrefused status h), fun h => (hadmitted h).symm.trans ht⟩

/-! ## SET_OWNER (R166) -/

/-- SET_OWNER by FROZEN and the store state, in that order. -/
theorem exec_setOwner (h : s.offers .setOwner = true) :
    (s.cred.frozen = true → exec .setOwner s = .next (s.respond .frozen [])) ∧
    (s.cred.frozen = false → s.cred.state = .locked ∨ s.cred.state = .lockedOut →
      exec .setOwner s = .next (s.respond .denied [])) ∧
    (s.cred.frozen = false → s.cred.state = .unset → s.store.marker.isSome = true →
      exec .setOwner s = .next (s.respond .refusedState [])) ∧
    (s.cred.frozen = false → s.cred.state = .unlocked ∨ (s.cred.state = .unset ∧ s.store.marker = none) →
      exec .setOwner s = .next (s.taken.setJob (.computeVerifier s.window.requestBody))) := by
  have hexec : exec .setOwner s = execSetOwner s := rfl
  rw [hexec, execSetOwner, takeRequest_of_offers h]
  refine ⟨fun hf => unlessFrozen_frozen (by exact hf) _, fun hf hs => ?_, fun hf hs hm => ?_, fun hf hs => ?_⟩
  all_goals refine (unlessFrozen_of (by exact hf) _).trans ?_
  · rcases hs with hs | hs <;> simp only [State.setWindow_cred, hs, State.respond_taken]
  · simp only [State.setWindow_cred, hs, State.respond_taken]
    exact if_pos hm
  · rcases hs with hs | ⟨hs, hm⟩ <;> simp only [State.setWindow_cred, hs]
    · rfl
    · exact if_neg (by simp [State.wipePending, hm])

/-- Some check answers, or the computation begins. -/
theorem exec_setOwner_next (h : s.offers .setOwner = true) : ∃ t, exec .setOwner s = .next t := by
  obtain ⟨hfrozen, hdenied, hpending, htaken⟩ := exec_setOwner h
  cases hf : s.cred.frozen with
  | true => exact ⟨_, hfrozen hf⟩
  | false =>
    cases hs : s.cred.state with
    | unlocked => exact ⟨_, htaken hf (.inl hs)⟩
    | locked => exact ⟨_, hdenied hf (.inl hs)⟩
    | lockedOut => exact ⟨_, hdenied hf (.inr hs)⟩
    | unset =>
      cases hm : s.store.marker with
      | none => exact ⟨_, htaken hf (.inr ⟨hs, hm⟩)⟩
      | some m => exact ⟨_, hpending hf hs (by simp [hm])⟩

theorem exec_verifierComputed {proof : Bytes} (ha : s.alive = true) (hj : s.job = .computeVerifier proof) :
    exec .verifierComputed s =
      .next ((s.setJob .idle).beginWrite (.ownerVerifier (s.fuses.ownerVerifierOf proof))) := by
  change execVerifierComputed s = _
  simp only [execVerifierComputed, ha, hj, if_true]

theorem CredStore.owned_eq (c : CredStore) :
    c.owned = { c with state := if c.state = .unset then .unlocked else c.state } := by
  unfold CredStore.owned
  split <;> rfl

/-! ## UNLOCK (R167) -/

theorem exec_unlock (h : s.offers .unlock = true) :
    (s.cred.state = .unset → exec .unlock s = .next (s.respond .refusedState [])) ∧
    (s.cred.state = .unlocked → exec .unlock s = .next (s.respond .ok [2, byteOf s.cred.attempts])) ∧
    (s.cred.state = .lockedOut → exec .unlock s = .next (s.respond .lockedOut [])) ∧
    (s.cred.state = .locked → exec .unlock s = .next (s.taken.setJob (.compareOwner s.window.requestBody))) := by
  have hexec : exec .unlock s = execUnlock s := rfl
  rw [hexec, execUnlock, takeRequest_of_offers h]
  refine ⟨fun hs => ?_, fun hs => ?_, fun hs => ?_, fun hs => ?_⟩ <;>
    simp only [State.setWindow_cred, hs, State.respond_taken]
  · simp only [State.attemptsBody, State.setWindow_cred, hs]
    rfl
  · rfl

theorem exec_unlock_next (h : s.offers .unlock = true) : ∃ t, exec .unlock s = .next t := by
  obtain ⟨hunset, hunlocked, hout, hlocked⟩ := exec_unlock h
  cases hs : s.cred.state with
  | unset => exact ⟨_, hunset hs⟩
  | unlocked => exact ⟨_, hunlocked hs⟩
  | lockedOut => exact ⟨_, hout hs⟩
  | locked => exact ⟨_, hlocked hs⟩

theorem exec_comparisonEnd_owner {proof : Bytes} (ha : s.alive = true) (hj : s.job = .compareOwner proof) :
    exec .comparisonEnd s = if s.store.verifier = some (s.fuses.ownerVerifierOf proof) then (ownerMatched s).result
      else .next (comparisonFailed s) := by
  change execComparisonEnd s = _
  simp only [execComparisonEnd, ha, hj, if_true]

theorem comparisonFailed_onlyChanges (s : State) : s.onlyChanges (comparisonFailed s) [.job, .write] := by
  simp [State.onlyChanges_iff, comparisonFailed]

/-- Settles O44: the two requests by the store, the computation, its write, and the comparison's end. -/
theorem ownerRequests : Obligations.OwnerRequests := by
  refine ⟨fun s h => ?_, fun s proof ha hj => ?_, fun s v ha hw => ?_, fun s h => ?_, fun s proof ha hj => ?_⟩
  · obtain ⟨hfrozen, hdenied, hpending, htaken⟩ := exec_setOwner h
    obtain ⟨t, ht⟩ := exec_setOwner_next h
    refine ⟨t, ht, fun hf => answers_of ht (hfrozen hf), fun hf hs => answers_of ht (hdenied hf hs),
      fun hf hs hm => answers_of ht (hpending hf hs hm), fun hf hs => ?_⟩
    cases ht.symm.trans (htaken hf hs)
    exact ⟨by simp [State.onlyChanges_iff, State.taken], rfl⟩
  · exact ⟨_, exec_verifierComputed ha hj, by simp [State.onlyChanges_iff], rfl, rfl⟩
  · refine ⟨ownerVerifierEffect v (s.setWrite none), exec_writeTakesEffect ha hw, ?_, rfl, rfl,
      s.cred.owned_eq, rfl⟩
    simp [State.onlyChanges_iff, ownerVerifierEffect]
  · obtain ⟨hunset, hunlocked, hout, hlocked⟩ := exec_unlock h
    obtain ⟨t, ht⟩ := exec_unlock_next h
    refine ⟨t, ht, fun hs => answers_of ht (hunset hs), fun hs => answers_of ht (hunlocked hs),
      fun hs => answers_of ht (hout hs), fun hs => ?_⟩
    cases ht.symm.trans (hlocked hs)
    exact ⟨by simp [State.onlyChanges_iff, State.taken], rfl⟩
  · intro computed matched
    have hexec := exec_comparisonEnd_owner ha hj
    by_cases hv : s.store.verifier = some computed
    · rw [if_pos (by exact hv)] at hexec
      have hmatched : ownerMatched s = (offerSequence .unlocked matched).andThen fun t =>
          .on (t.respond .ok t.attemptsBody) := rfl
      rw [hmatched] at hexec
      refine ⟨_, hexec, fun _ hw => ?_, fun w u _ hw ht => ⟨fun hr => ?_, fun hr => ?_⟩, fun hx => absurd hv hx⟩
      · rw [offerSequence_discards (by exact hw)]
        exact ⟨by simp [State.onlyChanges_iff, matched], rfl, rfl, rfl⟩
      · rw [offerSequence_restarts (s := matched) hw ht hr]
        rfl
      · rw [offerSequence_advances (s := matched) hw ht hr]
        refine ⟨by simp [State.onlyChanges_iff], rfl, ?_⟩
        have hattempts : u.cred.attempts = s.cred.attempts := (runActions_acted hr).attempts
        rw [State.answered, ← hattempts]
        rfl
    · rw [if_neg (by exact hv)] at hexec
      exact ⟨_, hexec, fun hx => absurd hx hv, fun w u hx => absurd hx hv,
        fun _ => ⟨comparisonFailed_onlyChanges s, rfl, rfl⟩⟩

/-! ## RECOVER and SET_RECOVERY_LEVEL (R169, R170) -/

/-- The first check that refuses a RECOVER, with its status (R169). -/
def State.recoverRefusedWith (s : State) (action : Byte) (status : Status) : Prop :=
  if action ≠ 1 ∧ action ≠ 2 then status = .badArgument
  else if s.cred.frozen = true then status = .frozen
  else if s.cred.state = .lockedOut then status = .lockedOut
  else if s.store.marker.isSome = true then status = .refusedState
  else if action = 1 ∧ s.cred.state = .unset then status = .refusedState
  else action = 1 ∧ s.store.recoveryLevel = .wipeOnly ∧ status = .denied

/-- What a RECOVER must meet for its comparison to begin (R169). -/
def State.recoverAdmitted (s : State) (action : Byte) : Prop :=
  s.cred.frozen = false ∧ s.cred.state ≠ .lockedOut ∧ s.store.marker = none ∧
    (action = 2 ∨ (action = 1 ∧ s.cred.state ≠ .unset ∧ s.store.recoveryLevel = .full))

theorem State.recover_cases (s : State) (action : Byte) :
    (∃ status, s.recoverRefusedWith action status) ∨ s.recoverAdmitted action := by
  unfold State.recoverRefusedWith State.recoverAdmitted
  by_cases ha : action ≠ 1 ∧ action ≠ 2
  · exact .inl ⟨_, by rw [if_pos ha]⟩
  by_cases hf : s.cred.frozen = true
  · exact .inl ⟨_, by rw [if_neg ha, if_pos hf]⟩
  by_cases hl : s.cred.state = .lockedOut
  · exact .inl ⟨_, by rw [if_neg ha, if_neg hf, if_pos hl]⟩
  by_cases hm : s.store.marker.isSome = true
  · exact .inl ⟨_, by rw [if_neg ha, if_neg hf, if_neg hl, if_pos hm]⟩
  by_cases hu : action = 1 ∧ s.cred.state = .unset
  · exact .inl ⟨_, by rw [if_neg ha, if_neg hf, if_neg hl, if_neg hm, if_pos hu]⟩
  by_cases hw : action = 1 ∧ s.store.recoveryLevel = .wipeOnly
  · exact .inl ⟨_, by rw [if_neg ha, if_neg hf, if_neg hl, if_neg hm, if_neg hu]; exact ⟨hw.1, hw.2, rfl⟩⟩
  refine .inr ⟨by simpa using hf, hl, by simpa using hm, ?_⟩
  by_cases h2 : action = 2
  · exact .inl h2
  · have h1 : action = 1 := by
      by_contra h1
      exact ha ⟨h1, h2⟩
    refine .inr ⟨h1, fun h => hu ⟨h1, h⟩, ?_⟩
    cases hlevel : s.store.recoveryLevel with
    | full => rfl
    | wipeOnly => exact absurd ⟨h1, hlevel⟩ hw

/-- The action byte names UNLOCK or WIPE, or nothing (section 11.3). -/
theorem recoverAction_eq (action : Byte) : (¬(action ≠ 1 ∧ action ≠ 2) →
      recoverAction action = some (decide (action = 2))) ∧
    (action ≠ 1 ∧ action ≠ 2 → recoverAction action = none) := by
  refine ⟨fun h => ?_, fun ⟨h1, h2⟩ => ?_⟩
  · by_cases h1 : action = 1
    · subst h1
      decide
    · obtain rfl : action = 2 := by
        by_contra h2
        exact h ⟨h1, h2⟩
      decide
  · simp only [recoverAction, h1, h2, if_false]

theorem exec_recover (h : s.offers .recover = true) :
    (∀ status, s.recoverRefusedWith (byteAt s.window.requestBody 32) status →
      exec .recover s = .next (s.respond status [])) ∧
    (s.recoverAdmitted (byteAt s.window.requestBody 32) → exec .recover s =
      .next (s.taken.setJob (.compareRecovery (slice s.window.requestBody 0 32)
        (decide (byteAt s.window.requestBody 32 = 2))))) := by
  have hexec : exec .recover s = execRecover s := rfl
  rw [hexec, execRecover, takeRequest_of_offers h]
  obtain ⟨hknown, hunknown⟩ := recoverAction_eq (byteAt s.window.requestBody 32)
  refine ⟨fun status hr => ?_, fun ⟨hf, hl, hm, haction⟩ => ?_⟩
  · unfold State.recoverRefusedWith at hr
    by_cases ha : byteAt s.window.requestBody 32 ≠ 1 ∧ byteAt s.window.requestBody 32 ≠ 2
    · rw [if_pos ha] at hr
      rw [hunknown ha, hr]
      rfl
    rw [if_neg ha] at hr
    simp only [hknown ha]
    by_cases hf : s.cred.frozen = true
    · rw [if_pos hf] at hr
      rw [hr]
      exact unlessFrozen_frozen (by exact hf) _
    rw [if_neg hf] at hr
    refine (unlessFrozen_of (by simpa using hf) _).trans ?_
    by_cases hl : s.cred.state = .lockedOut
    · rw [if_pos hl] at hr
      rw [hr]
      exact if_pos hl
    rw [if_neg hl] at hr
    refine (if_neg hl).trans ?_
    by_cases hm : s.store.marker.isSome = true
    · rw [if_pos hm] at hr
      rw [hr]
      exact if_pos hm
    rw [if_neg hm] at hr
    refine (if_neg hm).trans ?_
    by_cases hu : byteAt s.window.requestBody 32 = 1 ∧ s.cred.state = .unset
    · rw [if_pos hu] at hr
      rw [hr]
      exact if_pos ⟨by simp [hu.1], hu.2⟩
    rw [if_neg hu] at hr
    obtain ⟨h1, hw, rfl⟩ := hr
    exact (if_neg fun hx => hu ⟨h1, hx.2⟩).trans (if_pos ⟨by simp [h1], hw⟩)
  · have ha : ¬(byteAt s.window.requestBody 32 ≠ 1 ∧ byteAt s.window.requestBody 32 ≠ 2) := by
      rintro ⟨h1, h2⟩
      rcases haction with ha | ⟨ha, -⟩
      · exact h2 ha
      · exact h1 ha
    simp only [hknown ha]
    refine (unlessFrozen_of (by exact hf) _).trans ((if_neg (by exact hl)).trans
      ((if_neg (by simp [State.wipePending, hm])).trans ((if_neg ?_).trans (if_neg ?_))))
    all_goals
      rintro ⟨hwipe, hx⟩
      rcases haction with ha | ⟨-, hu, hlevel⟩
      · simp [ha] at hwipe
    · exact hu hx
    · exact absurd (hlevel.symm.trans hx) (by simp)

theorem exec_comparisonEnd_recovery {proof : Bytes} {wipe : Bool} (ha : s.alive = true)
    (hj : s.job = .compareRecovery proof wipe) : exec .comparisonEnd s =
      if s.fuses.recoveryVerifier = s.fuses.recoveryVerifierOf proof then .next (recoveryMatched wipe s)
      else .next (comparisonFailed s) := by
  change execComparisonEnd s = _
  simp only [execComparisonEnd, ha, hj, if_true]

theorem CredStore.recovered_eq (c : CredStore) :
    c.recovered = { c with state := if c.state = .locked then .unlocked else c.state } := by
  unfold CredStore.recovered
  split <;> rfl

/-- SET_RECOVERY_LEVEL's change, the level already standing or its write begun (R170). -/
def State.levelled (s : State) (level : RecoveryLevel) : State :=
  if s.store.recoveryLevel = level then s.respond .ok [level.code] else s.taken.beginWrite (.recoveryLevel level)

theorem exec_setRecoveryLevel {level : RecoveryLevel} (h : s.offers .setRecoveryLevel = true)
    (hl : recoveryLevelOf (byteAt s.window.requestBody 0) = some level) : exec .setRecoveryLevel s =
      unlessFrozen s.taken (whereOwned s.taken (.next (s.levelled level))) := by
  have hgo : Host.Outcome.next (s.levelled level) = if s.taken.store.recoveryLevel = level then
      (.next (s.taken.respond .ok [level.code]) : Result) else .next (s.taken.beginWrite (.recoveryLevel level)) := by
    unfold State.levelled
    by_cases hlevel : s.store.recoveryLevel = level
    · rw [if_pos hlevel, if_pos (by exact hlevel)]
      rfl
    · rw [if_neg hlevel, if_neg (by exact hlevel)]
  change execSetRecoveryLevel s = _
  rw [execSetRecoveryLevel, takeRequest_of_offers h, hgo]
  simp only [hl]
  rfl

theorem exec_setRecoveryLevel_bad (h : s.offers .setRecoveryLevel = true)
    (hl : recoveryLevelOf (byteAt s.window.requestBody 0) = none) :
    exec .setRecoveryLevel s = .next (s.respond .badArgument []) := by
  change execSetRecoveryLevel s = _
  rw [execSetRecoveryLevel, takeRequest_of_offers h]
  simp only [hl, State.respond_taken]

/-- Settles O45: RECOVER's checks and comparison, and the recovery level's request and write. -/
theorem recoveryRequests : Obligations.RecoveryRequests := by
  refine ⟨fun s h => ?_, fun s proof wipe ha hj => ?_, fun s level h hlevel => ?_, fun s h h1 h2 => ?_,
    fun s level ha hw => ?_⟩
  · intro action
    obtain ⟨hrefused, hadmitted⟩ := exec_recover h
    obtain ⟨t, ht⟩ : ∃ t, exec .recover s = .next t := by
      rcases s.recover_cases action with ⟨status, hr⟩ | hr
      · exact ⟨_, hrefused status hr⟩
      · exact ⟨_, hadmitted hr⟩
    refine ⟨t, ht, fun status hr => answers_of ht (hrefused status hr), fun hf hl hm haction => ?_⟩
    cases ht.symm.trans (hadmitted ⟨hf, hl, hm, haction⟩)
    exact ⟨by simp [State.onlyChanges_iff, State.taken], rfl⟩
  · intro computed
    have hexec := exec_comparisonEnd_recovery ha hj
    by_cases hv : s.fuses.recoveryVerifier = computed
    · rw [if_pos (by exact hv)] at hexec
      refine ⟨_, hexec, by cases wipe <;> rfl, ?_, ?_, fun hx => absurd hv hx⟩
      · rintro - rfl
        refine ⟨by simp [State.onlyChanges_iff, recoveryMatched], s.cred.recovered_eq, ?_⟩
        have hattempts : s.cred.recovered.attempts = s.cred.attempts := by rw [s.cred.recovered_eq]
        rw [State.answered, ← hattempts]
        rfl
      · rintro - rfl
        exact ⟨by simp [State.onlyChanges_iff, recoveryMatched, State.beginWipe], rfl⟩
    · rw [if_neg (by exact hv)] at hexec
      exact ⟨_, hexec, rfl, fun hx => absurd hx hv, fun hx => absurd hx hv,
        fun _ => ⟨comparisonFailed_onlyChanges s, rfl⟩⟩
  · have hl : recoveryLevelOf (byteAt s.window.requestBody 0) = some level := by
      rcases hlevel with ⟨hb, rfl⟩ | ⟨hb, rfl⟩ <;> rw [hb] <;> rfl
    obtain ⟨t, ht, hrefused, hadmitted⟩ := exec_ownedChange (exec_setRecoveryLevel h hl) ⟨_, rfl⟩
    refine ⟨t, ht, hrefused, fun hadm => ?_⟩
    cases hadmitted hadm
    refine ⟨fun hx => ?_, fun hx => ?_⟩
    · rw [State.levelled, if_pos hx]
      exact ⟨s.respond_onlyChanges _ _, rfl⟩
    · rw [State.levelled, if_neg hx]
      exact ⟨s.taken_beginWrite_onlyChanges _, rfl⟩
  · have hl : recoveryLevelOf (byteAt s.window.requestBody 0) = none := by
      simp only [recoveryLevelOf, h1, h2, if_false]
    exact ⟨_, exec_setRecoveryLevel_bad h hl, s.respond_onlyChanges _ _, rfl⟩
  · refine ⟨recoveryLevelEffect level (s.setWrite none), exec_writeTakesEffect ha hw, ?_, rfl, rfl, rfl⟩
    simp [State.onlyChanges_iff, recoveryLevelEffect]

end

end Sys2Proof.Machine
end

section
/-! PROOFS. Chapter 9: a failed attempt, the wipe, and the granules its marker visits. -/

namespace Sys2Proof.Machine

section
variable {s t u : State} {b : Booted}

/-! ## A failed attempt (R165) -/

/-- The part once a failed attempt is counted and logged (R165 items 1 to 3). -/
def State.failureCounted (s : State) : State :=
  (((s.setWrite none).setStore { s.store with failedTotal := satInc s.store.failedTotal }).setCred
    { s.cred with attempts := s.cred.attempts + 1 }).recordIncident (unlockFailed (s.cred.attempts + 1))

theorem exec_failedTotal (ha : s.alive = true) (hw : s.write = some .failedTotal)
    (hq : s.quiet .unlockFailed = true) : exec .writeTakesEffect s =
      ((lockoutIfFive s.failureCounted).andThen fun u => .on (u.respond .denied u.attemptsBody)).result := by
  have heffect : failedTotalEffect (s.setWrite none) = ((Flow.on s.failureCounted).andThen lockoutIfFive).andThen
      fun u => .on (u.respond .denied u.attemptsBody) :=
    congrArg (fun f : Flow => (f.andThen lockoutIfFive).andThen fun u => .on (u.respond .denied u.attemptsBody))
      (logIncident_of_log hq rfl rfl)
  exact (exec_writeTakesEffect ha hw).trans (congrArg Flow.result heffect)

theorem fireWatch_acted {trigger : WatchTrigger} (h : fireWatch trigger s = .on u) : Acted s u := by
  rcases fireWatch_spec trigger s with ⟨v, hv, k⟩ | ⟨v, hv, -⟩
  · cases h.symm.trans hv
    exact k
  · cases h.symm.trans hv

/-- Settles O46: the count and the log, then the answer, or LOCKOUT at the fifth. -/
theorem failedAttempt : Obligations.FailedAttempt := by
  intro s ha hw hq n
  have hexec := exec_failedTotal ha hw hq
  refine ⟨s.failureCounted, ?_, rfl, rfl, rfl, rfl, fun hn => ?_, fun hn => ?_⟩
  · simp [State.onlyChanges_iff, State.failureCounted, State.recordIncident]
  · rw [lockoutIfFive_below (by exact hn)] at hexec
    exact ⟨_, hexec, State.respond_onlyChanges _ _ _, rfl⟩
  · intro lockedOut
    have hraised : (s.failureCounted.setCred { s.failureCounted.cred with state := .lockedOut }).raiseFlag
        .unlockLockout = lockedOut := by
      rw [State.raiseFlag, show (1#10 <<< Flag.unlockLockout.bit) = 0x200#10 from rfl, State.setCred_flags,
        show s.failureCounted.flags = s.flags from rfl]
      rfl
    have hlockout : lockoutIfFive s.failureCounted = fireWatch .lockout lockedOut := by
      rw [lockoutIfFive_at (by exact hn), hraised]
    rw [hlockout] at hexec
    refine ⟨fun u hu => ?_, fun u hu => ?_, fun hd => fireWatch_discards hd⟩
    · rw [hu] at hexec
      exact hexec
    · rw [hu] at hexec
      have k := fireWatch_acted hu
      have hstate : u.cred.state = .lockedOut := by
        rcases k.store with hs | ⟨hs, -⟩
        · exact hs
        · cases hs
      have hattempts : u.cred.attempts = 5 := k.attempts.trans hn
      refine ⟨_, hexec, State.respond_onlyChanges _ _ _, ?_, hstate, hattempts⟩
      have hbody : u.attemptsBody = [3, 5] := by
        rw [State.attemptsBody, hstate, hattempts]
        rfl
      rw [State.answered, ← hbody]
      rfl

/-! ## The wipe (R171 to R173) -/

theorem State.job_idle_of_offers {r : Request} (h : s.offers r = true) : s.job = .idle := by
  simp only [State.offers, Bool.and_eq_true, decide_eq_true_eq] at h
  exact h.1.2

theorem exec_wipe (h : s.offers .wipe = true) : exec .wipe s =
    unlessFrozen s.taken (whereOwned s.taken (.next (s.taken.beginWrite (.wipe s.ownerSpans)))) := by
  have hidle : s.taken.setJob .idle = s.taken := by
    rw [← State.job_idle_of_offers h]
    rfl
  change execWipe s = _
  rw [execWipe, takeRequest_of_offers h, State.beginWipe]
  exact congrArg (fun v : State => unlessFrozen s.taken (whereOwned s.taken (.next
    (v.beginWrite (.wipe s.ownerSpans))))) hidle

/-- The part with the wipe's transaction made (R171). -/
def State.wiped (s : State) (spans : List Span) : State :=
  ((s.setWrite none).setStore (s.store.wiped spans)).setCred { s.cred with state := .unset }

theorem wipeEffect_spec (spans : List Span) (s : State) :
    (spans = [] → wipeEffect spans (s.setWrite none) = (s.wiped spans).respond .ok [0, 0, 0]) ∧
    (spans ≠ [] → wipeEffect spans (s.setWrite none) = ((s.wiped spans).takePort.setJob .granuleWait).engineTurn) := by
  refine ⟨?_, fun h => if_neg h⟩
  rintro rfl
  rfl

theorem wipeMarkerOver_eq (spans : List Span) :
    wipeMarkerOver spans = spans.head?.map fun first => { spans := spans, next := first.base } := by
  cases spans <;> rfl

/-- With the wipe marker present an UNSET store's records allow nothing (R29). -/
theorem State.baseRule_wiped {r : RegionRecord} (h : r.rule = .owner) (hs : t.cred.state = .unset)
    (hm : t.store.marker ≠ none) : t.baseRule r = .noAccess := by
  rw [State.baseRule_owner t h, State.ownerRule_eq, if_neg]
  rintro (hx | ⟨-, hx⟩)
  · exact absurd (hs.symm.trans hx) (by simp)
  · exact hm hx

/-- Where the engine waits its turn leaves the port as it was. -/
theorem State.engineTurn_waits (h : s.port.openTx.forwarded = true ∨ s.host.mayForward = true) :
    s.engineTurn = s := by
  rcases h with hf | hm
  · refine engineTurn_open fun hn => ?_
    rw [hn] at hf
    cases hf
  · exact engineTurn_mayForward hm

theorem exec_markerAdvance {m : WipeMarker} (ha : s.alive = true) (hw : s.write = some .markerAdvance)
    (hm : s.store.marker = some m) :
    exec .writeTakesEffect s = (markerEffect m (s.setWrite none)).result := by
  rw [exec_writeTakesEffect ha hw]
  simp only [writeEffect, State.setWrite_store, hm]

/-- The part with the marker advanced, or removed (R172). -/
def State.advanced (s : State) (m : WipeMarker) : State :=
  (s.setWrite none).setStore { s.store with marker := m.advanced }

theorem markerEffect_spec (m : WipeMarker) (s : State) :
    ((nextGranule m.spans m.next).isSome = true →
      markerEffect m (s.setWrite none) = .on ((s.advanced m).setJob .granuleWait).engineTurn) ∧
    (nextGranule m.spans m.next = none → s.boot.phase = .completing →
      markerEffect m (s.setWrite none) = finishStart (s.advanced m)) ∧
    (nextGranule m.spans m.next = none → s.boot.phase ≠ .completing →
      markerEffect m (s.setWrite none) = .on ((s.advanced m).returnPort.respond .ok (wipeBody m.spans))) := by
  have hsome : m.advanced.isSome = (nextGranule m.spans m.next).isSome := Option.isSome_map
  refine ⟨fun h => if_pos (hsome.trans h), fun h hp => ?_, fun h hp => ?_⟩
  · exact (if_neg (by rw [hsome, h]; simp)).trans (if_pos hp)
  · exact (if_neg (by rw [hsome, h]; simp)).trans (if_neg hp)

theorem finishStart_nonvolatile (s : State) :
    (finishStart s).state.store = s.store ∧ (finishStart s).state.fuses = s.fuses := by
  have hacted : ActedFlow (s.setJob .idle) (offerSequence .verified (s.setJob .idle)) := offerSequence_spec _ _
  rw [finishStart_eq]
  rcases hacted with ⟨v, hv, k⟩ | ⟨v, hv, k⟩ <;> rw [hv] <;> exact k.nonvolatile

/-- Settles O48: the request, its transaction, and each granule's marker write. -/
theorem wipeRequest : Obligations.WipeRequest := by
  refine ⟨fun s h => ?_, fun s spans ha hw => ?_, fun s m ha hw hm => ?_⟩
  · obtain ⟨t, ht, hrefused, hadmitted⟩ := exec_ownedChange (exec_wipe h) ⟨_, rfl⟩
    refine ⟨t, ht, hrefused, fun hadm => ?_⟩
    cases hadmitted hadm
    exact ⟨s.taken_beginWrite_onlyChanges _, rfl⟩
  · obtain ⟨hempty, hspans⟩ := wipeEffect_spec spans s
    have hexec : exec .writeTakesEffect s = .next (wipeEffect spans (s.setWrite none)) :=
      exec_writeTakesEffect ha hw
    by_cases hs : spans = []
    · rw [hempty hs] at hexec
      refine ⟨_, hexec, rfl, rfl, by rw [← wipeMarkerOver_eq]; rfl, fun _ => ⟨?_, rfl⟩, fun hx => absurd hs hx⟩
      simp [State.onlyChanges_iff, State.wiped]
    · rw [hspans hs] at hexec
      have hmarker : wipeMarkerOver spans ≠ none := by
        rw [wipeMarkerOver_eq]
        simpa using hs
      refine ⟨_, hexec, by simp [State.wiped], by simp [State.wiped], ?_, fun hx => absurd hx hs, fun _ =>
        ⟨by simp [State.onlyChanges_iff, State.wiped], by simp, State.engineTurn_owner _, fun r hr => ?_,
          fun ho hf => ?_, fun hx => ?_⟩⟩
      · rw [← wipeMarkerOver_eq]
        simp [State.wiped, RecordStore.wiped]
      · exact State.baseRule_wiped hr (by simp [State.wiped]) (by simpa [State.wiped, RecordStore.wiped] using hmarker)
      · rw [State.engineTurn_wait (.inr rfl) (by exact ho) (by exact hf)]
        rfl
      · rw [State.engineTurn_waits (by exact hx)]
        rfl
  · obtain ⟨hnext, hcompleting, hdone⟩ := markerEffect_spec m s
    have hexec := exec_markerAdvance ha hw hm
    cases hn : nextGranule m.spans m.next with
    | some next =>
      rw [hnext (by rw [hn]; rfl)] at hexec
      refine ⟨_, hexec, ?_, fun _ ho hf => ⟨?_, by simp [State.advanced], by simp, State.engineTurn_owner _, ?_⟩,
        nofun, nofun⟩
      · rw [← hn]
        simp [State.advanced, WipeMarker.advanced]
      · simp [State.onlyChanges_iff, State.advanced]
      · rw [State.engineTurn_wait (.inr rfl) (by exact ho) (by exact hf)]
        rfl
    | none =>
      have hadvanced : m.advanced = none := by rw [WipeMarker.advanced, hn]; rfl
      by_cases hp : s.boot.phase = .completing
      · rw [hcompleting hn hp] at hexec
        refine ⟨_, hexec, (finishStart_nonvolatile _).1.trans (by rw [State.advanced, hadvanced]; rfl), nofun,
          fun _ hr => absurd (hp.symm.trans hr) (by simp), fun _ _ => ?_⟩
        intro erased
        have herased : (s.advanced m).setJob .idle = erased := by
          rw [State.advanced, hadvanced]
          rfl
        rw [finishStart_eq, herased]
        refine ⟨fun hd => ?_, fun w u hwait ht => ⟨fun hr => ?_, fun hr => ?_⟩⟩
        · rw [offerSequence_discards (by exact hd)]
          exact ⟨by simp [State.onlyChanges_iff, State.released, erased], rfl, rfl, rfl, rfl⟩
        · rw [offerSequence_restarts (s := erased) hwait ht hr]
          rfl
        · rw [offerSequence_advances (s := erased) hwait ht hr]
          exact ⟨by simp [State.onlyChanges_iff, State.released], rfl, rfl, rfl, rfl⟩
      · rw [hdone hn hp] at hexec
        refine ⟨_, hexec, by rw [← hn]; rfl, nofun, fun _ _ => ⟨?_, rfl, rfl, rfl, rfl⟩,
          fun _ hx => absurd hx hp⟩
        simp [State.onlyChanges_iff, State.advanced]

end

end Sys2Proof.Machine
end

section
/-! PROOFS. Chapter 9: the granules that a wipe marker visits (R172). -/

namespace Sys2Proof.Machine

/-- The granules of a span, in ascending order (R172). -/
def Span.positions (p : Span) : List Nat :=
  (List.range ((p.limit - p.base) / 4096)).map fun k => p.base + 4096 * k

/-- The granules of every span, in order (R172). -/
def positionsOf (spans : List Span) : List Nat :=
  spans.flatMap Span.positions

/-- A span that begins and ends on granules and is not empty (R172). -/
def Span.onGranules (p : Span) : Prop :=
  p.base % 4096 = 0 ∧ p.limit % 4096 = 0 ∧ p.base < p.limit

section
variable {p : Span} {rest : List Span}

theorem Span.length_positions (p : Span) : p.positions.length = (p.limit - p.base) / 4096 := by
  simp [Span.positions]

/-- A span on granules is its positions' number of granules long. -/
theorem Span.onGranules.limit_eq (h : p.onGranules) : p.limit = p.base + 4096 * p.positions.length := by
  obtain ⟨hb, hl, hlt⟩ := h
  rw [p.length_positions]
  omega

theorem Span.onGranules.length_pos (h : p.onGranules) : 0 < p.positions.length := by
  have hlimit := h.limit_eq
  have hlt := h.2.2
  omega

theorem Span.getElem?_positions {k : Nat} (hk : k < p.positions.length) :
    p.positions[k]? = some (p.base + 4096 * k) := by
  rw [p.length_positions] at hk
  simp [Span.positions, hk]

theorem positionsOf_cons (p : Span) (rest : List Span) : positionsOf (p :: rest) = p.positions ++ positionsOf rest :=
  rfl

/-- The first position is the first span's base. -/
theorem head?_positionsOf {spans : List Span} (h : ∀ p ∈ spans, p.onGranules) :
    (positionsOf spans).head? = spans.head?.map (·.base) := by
  cases spans with
  | nil => rfl
  | cons p rest =>
    have hpos := (h p (by simp)).length_pos
    rw [positionsOf_cons, List.head?_append_of_ne_nil _ (List.ne_nil_of_length_pos hpos),
      List.head?_eq_getElem?, Span.getElem?_positions hpos]
    rfl

/-- A position lies at or above some span's base. -/
theorem base_le_of_mem_positionsOf {spans : List Span} {g : Nat} (h : g ∈ positionsOf spans) :
    ∃ p ∈ spans, p.base ≤ g := by
  obtain ⟨p, hp, hg⟩ := List.mem_flatMap.mp h
  obtain ⟨k, -, rfl⟩ := List.mem_map.mp hg
  exact ⟨p, hp, Nat.le_add_right _ _⟩

/-- Within a span the marker goes to the span's next granule; from its last one to the next span's first. -/
theorem nextGranule_within (h : p.onGranules) (hrest : ∀ q ∈ rest, q.onGranules) {k : Nat}
    (hk : k < p.positions.length) :
    nextGranule (p :: rest) (p.base + 4096 * k) = (p.positions ++ positionsOf rest)[k + 1]? := by
  have hlimit := h.limit_eq
  have hinside : p.base ≤ p.base + 4096 * k ∧ p.base + 4096 * k < p.limit := by omega
  rw [nextGranule, if_pos hinside]
  by_cases hlast : k + 1 < p.positions.length
  · rw [if_pos (by simp only [Config.granule]; omega), List.getElem?_append_left hlast,
      Span.getElem?_positions hlast, Nat.mul_succ, Nat.add_assoc]
    rfl
  · obtain hend : k + 1 = p.positions.length := by omega
    rw [if_neg (by simp only [Config.granule]; omega), List.getElem?_append_right hend.ge, hend, Nat.sub_self,
      ← List.head?_eq_getElem?, head?_positionsOf hrest]

/-- Beyond a span the marker is where the later spans put it. -/
theorem nextGranule_beyond {g : Nat} (h : p.limit ≤ g) : nextGranule (p :: rest) g = nextGranule rest g := by
  rw [nextGranule, if_neg (by omega)]

/-- Each position leads to the next one (R172). -/
theorem nextGranule_positionsOf {spans : List Span} (h : ∀ p ∈ spans, p.onGranules)
    (hasc : spans.Pairwise fun p q => p.limit ≤ q.base) :
    ∀ k g, (positionsOf spans)[k]? = some g → nextGranule spans g = (positionsOf spans)[k + 1]? := by
  induction spans with
  | nil => exact fun k g hg => by simp [positionsOf] at hg
  | cons p rest ih =>
    intro k g hg
    obtain ⟨hbelow, hasc⟩ := List.pairwise_cons.mp hasc
    have hrest : ∀ q ∈ rest, q.onGranules := fun q hq => h q (List.mem_cons_of_mem _ hq)
    rw [positionsOf_cons] at hg ⊢
    by_cases hk : k < p.positions.length
    · rw [List.getElem?_append_left hk, Span.getElem?_positions hk] at hg
      cases hg
      exact nextGranule_within (h p (by simp)) hrest hk
    · rw [List.getElem?_append_right (by omega)] at hg
      obtain ⟨q, hq, hbase⟩ := base_le_of_mem_positionsOf (List.mem_of_getElem? hg)
      rw [nextGranule_beyond ((hbelow q hq).trans hbase), List.getElem?_append_right (by omega),
        ih hrest hasc _ g hg]
      congr 1
      omega

end

/-- Settles O49: the marker begins at the first position and goes from each to the next. -/
theorem markerVisitsEveryGranule : Obligations.MarkerVisitsEveryGranule := by
  intro spans h hasc visited
  refine ⟨?_, nextGranule_positionsOf h hasc⟩
  refine Eq.trans ?_ (head?_positionsOf h).symm
  cases spans <;> rfl

end Sys2Proof.Machine
end

section
/-! PROOFS. Chapter 9: credential records, put and emptied, read, used and listed (R174 to R180, R193). -/

namespace Sys2Proof.Machine

/-! ## Fields of a byte string -/

theorem slice_append {a b c : Bytes} {k n : Nat} (ha : a.length = k) (hb : b.length = n) :
    slice (a ++ (b ++ c)) k n = b := by
  rw [slice, List.drop_left' ha, List.take_left' hb]

theorem slice_append_last {a b : Bytes} {k n : Nat} (ha : a.length = k) (hb : b.length = n) :
    slice (a ++ b) k n = b := by
  rw [slice, List.drop_left' ha, ← hb, List.take_length]

theorem byteAt_append {a c : Bytes} {x : Byte} {k : Nat} (ha : a.length = k) : byteAt (a ++ x :: c) k = x := by
  subst ha
  simp [byteAt]

theorem byteAt_slice {k n : Nat} (h : k < n) (bs : Bytes) (o : Nat) : byteAt (slice bs o n) k = byteAt bs (o + k) := by
  simp [byteAt, slice, h, List.getD_eq_getElem?_getD]

/-- Two bytes read low byte first, those beyond the string counting as 0. -/
theorem ofLe_slice_two (bs : Bytes) (k : Nat) : ofLe (slice bs k 2) = ofLe [byteAt bs k, byteAt bs (k + 1)] := by
  have hbyte : ∀ j, byteAt bs (k + j) = byteAt (bs.drop k) j := fun j => by
    simp [byteAt, List.getD_eq_getElem?_getD]
  rw [slice, show byteAt bs k = _ from hbyte 0, hbyte 1]
  match bs.drop k with
  | [] => rfl
  | [x] => rfl
  | x :: y :: rest => rfl

theorem toNat_byteOf {n : Nat} (h : n < 256) : (byteOf n).toNat = n := by
  simp [byteOf, Nat.mod_eq_of_lt h]

/-- A release policy is read back from its bytes (R193). -/
theorem Policy.ofBytes_bytes {p : Policy} (hl : p.label.length = 4) (he : p.expected.length = 32) :
    Policy.ofBytes p.bytes = p := by
  have hlabel : slice p.bytes 6 4 = p.label := by
    rw [Policy.bytes, List.append_assoc]
    exact slice_append (by simp) hl
  have hexpected : slice p.bytes 10 32 = p.expected := slice_append_last (by simp [hl]) he
  have hforbidden : BitVec.ofNat 16 (ofLe (slice p.bytes 3 2)) = p.forbidden := by
    have hslice : slice p.bytes 3 2 = le 2 p.forbidden.toNat := rfl
    rw [hslice, ofLe_le p.forbidden.isLt, BitVec.ofNat_toNat, BitVec.setWidth_eq]
  rw [Policy.ofBytes, hlabel, hexpected, hforbidden]
  rfl

/-- The 16-bit field in two bytes keeps their value. -/
theorem toNat_ofLe_two (x y : Byte) : (BitVec.ofNat 16 (ofLe [x, y])).toNat = ofLe [x, y] := by
  have hx := x.isLt
  have hy := y.isLt
  simp only [BitVec.toNat_ofNat, ofLe]
  omega

/-! ## PUT_CREDENTIAL's body (R176, R193) -/

/-- The values a policy admits, each as a bound (R193). -/
theorem Policy.admitted_iff (p : Policy) : p.admitted = true ↔
    p.minEpoch.toNat ≤ 64 ∧ 1 ≤ p.verdicts.toNat ∧ p.verdicts.toNat ≤ 15 ∧ p.forbidden.toNat < 1024 ∧
      p.presence.toNat ≤ 1 := by
  simp [Policy.admitted, and_assoc]

/-- The bytes of a credential put at an index (section 11.3). -/
def Credential.putBytes (index : Nat) (c : Credential) : Bytes :=
  [byteOf index, c.kind.code] ++ c.label ++ c.policy.bytes ++ [byteOf c.value.length] ++ c.value

theorem length_policyBytes {p : Policy} (hl : p.label.length = 4) (he : p.expected.length = 32) :
    p.bytes.length = 42 := by
  simp [Policy.bytes, hl, he]

theorem credKindOf_code (k : CredKind) : credKindOf k.code = some k := by
  cases k <;> rfl

/-- A record's own bytes are read back as the record. -/
theorem putOf_putBytes {i : Nat} {c : Credential} (hi : i ≤ 15) (hlabel : c.label.length = 8)
    (h1 : 1 ≤ c.value.length) (h64 : c.value.length ≤ 64) (hpl : c.policy.label.length = 4)
    (hpe : c.policy.expected.length = 32) (hadmitted : c.policy.admitted = true) :
    putOf (c.putBytes i) = some (i, c) := by
  have hpolicy := length_policyBytes hpl hpe
  have hindex : byteAt (c.putBytes i) 0 = byteOf i := rfl
  have hkind : byteAt (c.putBytes i) 1 = c.kind.code := rfl
  have hlabel' : slice (c.putBytes i) 2 8 = c.label := by
    simp only [Credential.putBytes, List.append_assoc]
    exact slice_append rfl hlabel
  have hpolicy' : slice (c.putBytes i) 10 42 = c.policy.bytes := by
    rw [Credential.putBytes, List.append_assoc, List.append_assoc]
    exact slice_append (by simp [hlabel]) hpolicy
  have hlength : (byteAt (c.putBytes i) 52).toNat = c.value.length := by
    rw [Credential.putBytes, List.append_assoc, List.singleton_append, byteAt_append (by simp [hlabel, hpolicy]),
      toNat_byteOf (by omega)]
  have hvalue : slice (c.putBytes i) 53 c.value.length = c.value :=
    slice_append_last (by simp [hlabel, hpolicy]) rfl
  have hbody : (c.putBytes i).length - 53 = c.value.length := by
    simp [Credential.putBytes, hlabel, hpolicy]
    omega
  have hindexOf : indexOf (c.putBytes i) = some i := by
    rw [indexOf, hindex, toNat_byteOf (by omega), if_pos hi]
  simp only [putOf, hindexOf, hkind, credKindOf_code, hlength, hbody, hpolicy', Policy.ofBytes_bytes hpl hpe,
    hadmitted, h1, h64, and_self, if_true, hlabel', hvalue]

/-- What a body that spells a record meets. -/
theorem putOf_some {body : Bytes} {x : Nat × Credential} (h : putOf body = some x) :
    (byteAt body 0).toNat ≤ 15 ∧ (byteAt body 1 = 1 ∨ byteAt body 1 = 2) ∧
    (byteAt body 52).toNat = body.length - 53 ∧ 1 ≤ (byteAt body 52).toNat ∧ (byteAt body 52).toNat ≤ 64 ∧
    (Policy.ofBytes (slice body 10 42)).admitted = true := by
  unfold putOf at h
  dsimp only at h
  split at h
  · rename_i index kind hindex hkind
    split at h
    · rename_i hvalues
      obtain ⟨hlength, h1, h64, hadmitted⟩ := hvalues
      refine ⟨?_, ?_, hlength, h1, h64, hadmitted⟩
      · by_contra hi
        rw [indexOf, if_neg hi] at hindex
        cases hindex
      · by_contra hk
        rw [not_or] at hk
        rw [credKindOf, if_neg hk.1, if_neg hk.2] at hkind
        cases hkind
    · cases h
  · cases h

/-- Where the fields that are judged lie in the body (section 11.3). -/
theorem Policy.ofBytes_slice (body : Bytes) :
    (Policy.ofBytes (slice body 10 42)).minEpoch = byteAt body 11 ∧
    (Policy.ofBytes (slice body 10 42)).verdicts = byteAt body 12 ∧
    (Policy.ofBytes (slice body 10 42)).forbidden.toNat = ofLe [byteAt body 13, byteAt body 14] ∧
    (Policy.ofBytes (slice body 10 42)).presence = byteAt body 15 := by
  have hbyte : ∀ k < 42, byteAt (slice body 10 42) k = byteAt body (10 + k) := fun k hk => byteAt_slice hk body 10
  refine ⟨hbyte 1 (by decide), hbyte 2 (by decide), ?_, hbyte 5 (by decide)⟩
  change (BitVec.ofNat 16 (ofLe (slice (slice body 10 42) 3 2))).toNat = _
  rw [ofLe_slice_two, hbyte 3 (by decide), hbyte 4 (by decide), toNat_ofLe_two]

/-- A body with a value that is not admitted spells no record (R176, R193). -/
theorem putOf_none {body : Bytes} (h : 15 < (byteAt body 0).toNat ∨ (byteAt body 1 ≠ 1 ∧ byteAt body 1 ≠ 2) ∨
      64 < (byteAt body 11).toNat ∨ byteAt body 12 = 0 ∨ 15 < (byteAt body 12).toNat ∨
      1024 ≤ ofLe [byteAt body 13, byteAt body 14] ∨ 1 < (byteAt body 15).toNat ∨
      (byteAt body 52).toNat ≠ body.length - 53 ∨ (byteAt body 52).toNat = 0 ∨
      64 < (byteAt body 52).toNat) : putOf body = none := by
  cases hput : putOf body with
  | none => rfl
  | some x =>
    obtain ⟨hi, hk, hlength, h1, h64, hadmitted⟩ := putOf_some hput
    obtain ⟨hepoch, hv1, hv15, hforbidden, hpresence⟩ := (Policy.admitted_iff _).mp hadmitted
    obtain ⟨hfield1, hfield2, hfield3, hfield5⟩ := Policy.ofBytes_slice body
    rw [hfield1] at hepoch
    rw [hfield2] at hv1 hv15
    rw [hfield3] at hforbidden
    rw [hfield5] at hpresence
    rcases h with h | ⟨h, h'⟩ | h | h | h | h | h | h | h | h
    · omega
    · rcases hk with hk | hk
      · exact absurd hk h
      · exact absurd hk h'
    · omega
    · simp [h] at hv1
    all_goals omega

section
variable {s t u : State} {b : Booted}

theorem exec_putCredential {i : Nat} {c : Credential} (h : s.offers .putCredential = true)
    (hput : putOf s.window.requestBody = some (i, c)) : exec .putCredential s =
      unlessFrozen s.taken (whereOwned s.taken (.next (s.taken.beginWrite (.putCredential i c)))) := by
  change execPutCredential s = _
  rw [execPutCredential, takeRequest_of_offers h]
  simp only [hput]
  rfl

theorem exec_putCredential_bad (h : s.offers .putCredential = true)
    (hput : putOf s.window.requestBody = none) :
    exec .putCredential s = .next (s.respond .badArgument []) := by
  change execPutCredential s = _
  rw [execPutCredential, takeRequest_of_offers h]
  simp only [hput, State.respond_taken]

/-- What a DELETE_CREDENTIAL that the store admits comes to (R177). -/
def State.deleting (s : State) (i : Nat) : State :=
  if (s.credential i).isSome then s.taken.beginWrite (.deleteCredential i) else s.respond .notFound []

theorem exec_deleteCredential {i : Nat} (h : s.offers .deleteCredential = true)
    (hi : indexOf s.window.requestBody = some i) : exec .deleteCredential s =
      unlessFrozen s.taken (whereOwned s.taken (.next (s.deleting i))) := by
  have hgo : Host.Outcome.next (s.deleting i) = if (s.taken.credential i).isSome then
      (.next (s.taken.beginWrite (.deleteCredential i)) : Result) else .next (s.taken.respond .notFound []) := by
    unfold State.deleting
    by_cases hc : (s.credential i).isSome = true
    · rw [if_pos hc, if_pos (by exact hc)]
    · rw [if_neg hc, if_neg (by exact hc)]
      rfl
  change execDeleteCredential s = _
  rw [execDeleteCredential, takeRequest_of_offers h, hgo]
  simp only [hi]
  rfl

theorem exec_deleteCredential_bad (h : s.offers .deleteCredential = true)
    (hi : indexOf s.window.requestBody = none) :
    exec .deleteCredential s = .next (s.respond .badArgument []) := by
  change execDeleteCredential s = _
  rw [execDeleteCredential, takeRequest_of_offers h]
  simp only [hi, State.respond_taken]

/-- Settles O50: the body read back or refused, the store's refusals, and the two writes. -/
theorem putAndDeleteCredential : Obligations.PutAndDeleteCredential := by
  refine ⟨fun s i c h hi hlabel h1 h64 hpl hpe hepoch hv1 hv15 hforbidden hpresence hbody => ?_, fun s h => ?_,
    fun s h => ?_, fun s i w c ha hw hwrite => ?_⟩
  · have hadmitted := (Policy.admitted_iff _).mpr ⟨hepoch, hv1, hv15, hforbidden, hpresence⟩
    have hput : putOf s.window.requestBody = some (i, c) := by
      rw [hbody]
      exact putOf_putBytes hi hlabel h1 h64 hpl hpe hadmitted
    obtain ⟨t, ht, hrefused, hadm⟩ := exec_ownedChange (exec_putCredential h hput) ⟨_, rfl⟩
    refine ⟨t, ht, hrefused, fun ha => ?_⟩
    cases hadm ha
    exact ⟨s.taken_beginWrite_onlyChanges _, rfl⟩
  · intro body hbad
    exact ⟨_, exec_putCredential_bad h (putOf_none hbad), s.respond_onlyChanges _ _, rfl⟩
  · intro i
    by_cases hi : i ≤ 15
    · have hindex : indexOf s.window.requestBody = some i := if_pos hi
      obtain ⟨t, ht, hrefused, hadm⟩ := exec_ownedChange (exec_deleteCredential h hindex) ⟨_, rfl⟩
      refine ⟨t, ht, fun hx => absurd hi (Nat.not_le.mpr hx), fun status _ => hrefused status, fun _ ha => ?_⟩
      cases hadm ha
      refine ⟨fun hc => ?_, fun c hc => ?_⟩ <;> rw [State.deleting, hc]
      · exact ⟨s.respond_onlyChanges _ _, rfl⟩
      · exact ⟨s.taken_beginWrite_onlyChanges _, rfl⟩
    · exact ⟨_, exec_deleteCredential_bad h (if_neg hi), fun _ => ⟨s.respond_onlyChanges _ _, rfl⟩,
        fun status hx => absurd hx hi, fun hx => absurd hx hi⟩
  · have heffect : writeEffect w (s.setWrite none) = .next (credentialEffect i c (s.setWrite none)) := by
      rcases hwrite with ⟨d, rfl, rfl⟩ | ⟨rfl, rfl⟩ <;> rfl
    refine ⟨_, (exec_writeTakesEffect ha hw).trans heffect, ?_, rfl, rfl, rfl⟩
    simp [State.onlyChanges_iff, credentialEffect]

/-! ## GET_CREDENTIAL, MAC_WITH_CREDENTIAL and LIST_CREDENTIALS (R178 to R180) -/

/-- What a use that is granted answers, or the computation it begins (R178, R179). -/
def State.granted (s : State) (i : Nat) (c : Credential) : CredKind → State
  | .secret => s.respond .ok ([byteOf i, c.kind.code, byteOf c.value.length] ++ c.value)
  | .key => s.taken.setJob (.computeMac c.value (s.window.requestBody.drop 1))

/-- The two requests that use a record share their cases, the kinds' roles exchanged (R178, R179). -/
theorem exec_credentialUse {request : Instr} {r : Request} {kind : CredKind}
    (hmem : (request, r, kind) ∈ [(Instr.getCredential, Request.getCredential, CredKind.secret),
      (Instr.macWithCredential, Request.macWithCredential, CredKind.key)]) (h : s.offers r = true) :
    exec request s = useCredential kind s.window.requestBody s.taken fun i c => .next (s.granted i c kind) := by
  simp only [List.mem_cons, Prod.mk.injEq, List.not_mem_nil, or_false] at hmem
  rcases hmem with ⟨rfl, rfl, rfl⟩ | ⟨rfl, rfl, rfl⟩
  · change execGetCredential s = _
    rw [execGetCredential, takeRequest_of_offers h]
    rfl
  · change execMacWithCredential s = _
    rw [execMacWithCredential, takeRequest_of_offers h]
    rfl

/-- What a use comes to: the index, the record, its kind and its policy, in that order (R178, R179). -/
theorem useCredential_spec {kind : CredKind} {body : Bytes} {go : Nat → Credential → Result}
    (hb : s.boot.outcome = .booted b) :
    (15 < (byteAt body 0).toNat → useCredential kind body s go = .next (s.respond .badArgument [])) ∧
    ((byteAt body 0).toNat ≤ 15 → s.credential (byteAt body 0).toNat = none →
      useCredential kind body s go = .next (s.respond .notFound [])) ∧
    (∀ c, (byteAt body 0).toNat ≤ 15 → s.credential (byteAt body 0).toNat = some c →
      (c.kind ≠ kind ∨ s.policyFailures b c.policy ≠ 0 → useCredential kind body s go =
        denyCredential (byteAt body 0).toNat (if c.kind ≠ kind then 0x20 else s.policyFailures b c.policy) s) ∧
      (c.kind = kind → s.policyFailures b c.policy = 0 →
        useCredential kind body s go = go (byteAt body 0).toNat c)) := by
  rw [useCredential, withBooted_of hb]
  refine ⟨fun hi => ?_, fun hi hc => ?_, fun c hi hc => ⟨fun hdeny => ?_, fun hk hp => ?_⟩⟩
  · rw [indexOf, if_neg (Nat.not_le.mpr hi)]
  all_goals rw [indexOf, if_pos hi]; simp only [hc]
  · by_cases hk : c.kind ≠ kind
    · rw [if_pos hk, if_pos hk]
      rfl
    · rw [if_neg hk, if_neg hk, if_pos (hdeny.resolve_left hk)]
  · rw [if_neg (not_not.mpr hk), if_neg (not_not.mpr hp)]

theorem denyCredential_quiet {i : Nat} {reasons : Byte} (hq : s.quiet .credDenied = true) (hl : t.log = s.log) :
    denyCredential i reasons t =
      .next ((t.recordIncident (plainIncident .credDenied noRegion reasons i)).respond .denied [reasons]) := by
  rw [denyCredential, logIncident_of_log hq rfl hl]
  rfl

theorem exec_macComplete {key data : Bytes} (ha : s.alive = true) (hj : s.job = .computeMac key data) :
    exec .macComplete s = .next ((s.setJob .idle).respond .ok (hmac key data)) := by
  change execMacComplete s = _
  simp only [execMacComplete, ha, hj, if_true]

/-- Settles O51: each use by index, record, kind and policy; the MAC's end; and the list. -/
theorem credentialUse : Obligations.CredentialUse := by
  refine ⟨fun request r kind hmem s b h hb => ?_, fun s key data ha hj => ?_, fun s h => ?_⟩
  · intro body i
    have hexec := exec_credentialUse hmem h
    obtain ⟨hbad, hmissing, hpresent⟩ := useCredential_spec (s := s.taken) (kind := kind) (body := body)
      (go := fun i c => .next (s.granted i c kind)) hb
    refine ⟨fun hi => ?_, fun hi hc => ?_, fun c hi hc hq hdeny => ?_, fun c hi hc hk hp => ?_⟩
    · exact ⟨_, hexec.trans (hbad hi), s.respond_onlyChanges _ _, rfl⟩
    · exact ⟨_, hexec.trans (hmissing hi hc), s.respond_onlyChanges _ _, rfl⟩
    · intro reasons
      have hdenied := ((hpresent c hi hc).1 hdeny).trans (denyCredential_quiet (s := s) hq rfl)
      refine ⟨_, hexec.trans hdenied, ?_, rfl, rfl⟩
      simp [State.onlyChanges_iff, State.taken, State.recordIncident]
    · refine ⟨_, hexec.trans ((hpresent c hi hc).2 hk hp), ?_, ?_⟩
      · rintro rfl
        refine ⟨s.respond_onlyChanges _ _, ?_⟩
        rw [State.answered, State.granted, hk]
        rfl
      · rintro rfl
        exact ⟨by simp [State.onlyChanges_iff, State.granted, State.taken], rfl⟩
  · exact ⟨_, exec_macComplete ha hj, by simp [State.onlyChanges_iff], rfl, rfl⟩
  · have hexec : exec .listCredentials s = .next (s.respond .ok (byteOf ((List.range 16).filterMap fun i =>
        (s.credential i).map fun c => c.listing i).length :: ((List.range 16).filterMap fun i =>
          (s.credential i).map fun c => c.listing i).flatten)) := by
      change execListCredentials s = _
      rw [execListCredentials, takeRequest_of_offers h]
      rfl
    exact ⟨_, _, hexec, s.respond_onlyChanges _ _, rfl, rfl⟩

end

end Sys2Proof.Machine
end
